-- ==== Sys2Proof/Word.lean ====
section
/-! DEFINITION. The plain value types of the BS-20: tags, lengths, grades, stems, cradles, frame kinds. -/

namespace Sys2Proof

/-- One byte of the profile image. -/
abbrev Byte := BitVec 8

/-- A carrier tag 0..4095; tags wrap (00_scope, "Carrier tags"). -/
abbrev Tag := BitVec 12

/-- A length in whole millimetres, 0..2047 (00_scope, "Lengths"). -/
abbrev Length := Fin 2048

/-- A grade 0..7, 7 being unclassified (00_scope, "Grades and flags"). -/
abbrev Grade := Fin 8

/-- A station number 0..63 (00_scope, "Numbering"). -/
abbrev StationNo := Fin 64

/-- A stem as an ANNOUNCE or a REOFFER names it: its carrier, length, grade and defect flags. -/
structure Stem where
  tag : Tag
  length : Length
  grade : Grade
  head : Bool
  bent : Bool
  double : Bool
  deriving DecidableEq, Repr

/-- The two cradle positions, which also name the two drop beams. -/
inductive Cradle where
  | a
  | b
  deriving DecidableEq, Repr

/-- The two kinds of claim round (R30), which are also the kinds of a claim (R57, R81). -/
inductive RoundKind where
  | claim
  | reclaim
  deriving DecidableEq, Repr

/-- The eleven kinds of frame on the line bus (R137). -/
inductive FrameKind where
  | announce
  | claim
  | reclaim
  | reoffer
  | conflict
  | alert
  | bunch
  | quota
  | join
  | query
  | status
  deriving DecidableEq, Repr

/-- The input pins that are read through qualifiers (R182, 12.5). -/
inductive Pin where
  | beam (cradle : Cradle)
  | sensor (cradle : Cradle)
  | pull (cradle : Cradle)
  | finish (cradle : Cradle)
  | clear
  | cancel
  | drain
  | resume
  | key
  deriving DecidableEq, Repr

/-- One thing for each qualified pin, under the pin's name (12.5). -/
structure Pins (α : Type) where
  beamA : α
  beamB : α
  sensorA : α
  sensorB : α
  pullA : α
  pullB : α
  finishA : α
  finishB : α
  clear : α
  cancel : α
  drain : α
  resume : α
  key : α
  deriving DecidableEq, Repr

/-- What stands at the profile memory's two wires during the one-pass read (R155, R182): the address a device
answers to, and the bytes it gives from byte 0 on, `none` for a byte it does not acknowledge. -/
structure SerialMemory where
  address : BitVec 7
  bytes : List (Option Byte)
  deriving DecidableEq, Repr

/-- How the one-pass read of the profile memory ended (R155): it failed, or the image of 64 bytes was taken. -/
inductive ProfileRead where
  | failed
  | image (bytes : List Byte)
  deriving DecidableEq, Repr

end Sys2Proof
end

