-- ==== Sys2Proof/Syntax.lean ====
section
/-! DEFINITION. The commands of the block: one constructor for each row of spec/opcode_table.json. The
table gives no operands; each constructor carries what the rule of its row needs from outside. -/

namespace Sys2Proof

/-- A command to the block: an event the BS-20 takes, whole and indivisible (95_what_each_step_holds). -/
inductive Instr where
  /-- The end of a reset (R154): RESETN goes high. Where power was applied during it, `powerOn` holds the levels read
  at the qualified pins at each bit time from then on, the first read first (R182): true is blocked, present, pressed,
  on (12.5). Where power was on all along it is empty. -/
  | reset (powerOn : List (Pins Bool))
  /-- The end of the profile read, with what stood at the memory's wires (R155). -/
  | profileReadEnd (memory : SerialMemory)
  /-- A PITCH edge with DIR forward (R5). -/
  | forwardPulse
  /-- A PITCH edge with DIR reverse (R6). -/
  | reversePulse
  /-- The end of a good ANNOUNCE frame (R7 to R9). -/
  | announce (stem : Stem)
  /-- 2 ms of announce pending with no frame of kind 0 ending (R142). -/
  | announcePendingEnd
  /-- The other parties on HOLD come to mark it, or to leave it open (R14). -/
  | holdLevelChange (marked : Bool)
  /-- The start point of a CLAIM frame (R41). -/
  | claimStart
  /-- The start point of a RECLAIM frame (R53). -/
  | reclaimStart
  /-- A bit of the arbitration field driven open and read marked (R145). -/
  | arbitrationLoss
  /-- A bit read other than driven, outside an arbitration loss; `atStart`: it is the start mark (R147). -/
  | transmitMismatch (atStart : Bool)
  /-- The end of a CLAIM frame the station has won (R43). -/
  | claimSent
  /-- The end of a RECLAIM frame the station has won (R54). -/
  | reclaimSent
  /-- The end of a good CLAIM or RECLAIM frame of another device (R140). -/
  | claimReceived (kind : RoundKind)
  /-- The end of a good REOFFER frame of another station (R109). -/
  | reofferReceived (station : StationNo) (stem : Stem)
  /-- The end of a frame with a bad check, of the kind that was read (R140). -/
  | badCheckFrame (kind : FrameKind)
  /-- Eleven consecutive open bits inside a frame of the kind that was read (R139). -/
  | frameCutShort (kind : FrameKind)
  /-- A kind field that reads 11..15 (R139). -/
  | unknownKindFrame (code : BitVec 4)
  /-- The eleventh consecutive open bit time outside a frame (R139, R141). -/
  | busIdle
  /-- 24 quiet bit times of the claim reserve (R143). -/
  | claimReserveEnd
  /-- 24 quiet bit times of the reclaim reserve (R143). -/
  | reclaimReserveEnd
  /-- A start point with entries in the Re-offer List (R106). -/
  | reofferSend
  /-- The end of a REOFFER the station has driven (R107). -/
  | reofferSent
  /-- A start point with an empty Re-offer List and a notice waiting (R141). -/
  | noticeSend
  /-- The end of a notice frame the station has driven (R149). -/
  | noticeSent
  /-- The join timer reaches 400 ms (R159). -/
  | joinTimerEnd
  /-- The end of a good JOIN of another device (R160). -/
  | joinReceived (number : StationNo)
  /-- The end of a good CONFLICT of another device (R160). -/
  | conflictReceived (number : StationNo)
  /-- The end of a good ALERT, BUNCH, QUOTA or STATUS frame of another device (R140). -/
  | noticeReceived (kind : FrameKind)
  /-- The end of a good QUERY frame (R173). -/
  | query (target : StationNo) (topic : Fin 16)
  /-- A cradle sensor changes to present (R64). -/
  | cradlePresent (cradle : Cradle)
  /-- A cradle sensor changes to absent (R61). -/
  | cradleAbsent (cradle : Cradle)
  /-- A drop beam goes from clear to blocked (R88). -/
  | beamBlocked (beam : Cradle)
  /-- A drop beam goes from blocked to clear (R88). -/
  | beamClear (beam : Cradle)
  /-- tmin has passed since the fire of the oldest WAITING falling entry (R87). -/
  | windowOpen
  /-- tmax has passed since the fire of the oldest falling entry (R92). -/
  | miss
  /-- The 15 ms of the gate pulse have run (R85). -/
  | gatePulseEnd
  /-- A beam has read blocked for 2000 ms (R94). -/
  | gateStuck (beam : Cradle)
  /-- The removal timer of a cradle reaches the removal limit (R71). -/
  | removalOverdue (cradle : Cradle)
  /-- A press of PULL-A or PULL-B (R75). -/
  | pull (cradle : Cradle)
  /-- A press of FINISH-A or FINISH-B, with the key switch as read (R76). -/
  | finish (cradle : Cradle) (key : Bool)
  /-- A press of CLEAR, with the key switch as read (R126, R127). -/
  | clear (key : Bool)
  /-- A press of CANCEL (R129). -/
  | cancel
  /-- A press of DRAIN (R163). -/
  | drain
  /-- A press of RESUME (R164). -/
  | resume
  /-- The 200 ms of the REFUSE pulse have run (R132). -/
  | refusePulseEnd
  /-- A marked bit read outside a frame (R139). -/
  | startMark
  /-- Bid bit 0 has been driven with no loss and no mismatch (R43). -/
  | won
  /-- RESETN goes low (R136). -/
  | resetHeld
  deriving DecidableEq, Repr

end Sys2Proof
end

