-- ==== Sys2Proof/Decode.lean ====
section
/-! DEFINITION. The commands a table word spells. Every row of spec/opcode_table.json has no bits (its
`fields` are empty), so no word spells a command. -/

namespace Sys2Proof

/-- The command the bits of a table row spell: none, since no row gives bits. -/
def decodeTableWord (_nbits _w : Nat) : Option Instr := none

end Sys2Proof
end

