-- ==== Sys2Proof/Config.lean ====
section
/-! DEFINITION. The constants the spec fixes for the part: capacities, times and an address. One bit time is 4 µs
(00_scope, "Times"); every time below is in bit times. The spec leaves no value undefined, so there is no
free value here. -/

namespace Sys2Proof.Config

/-- Bit times in a millisecond: 1000 µs / 4 µs. -/
def perMs : Nat := 250

/-- Announce pending runs 2 ms (R142). -/
def announcePendingTime : Nat := 2 * perMs

/-- A reserve ends after 24 quiet bit times (R143). -/
def reserveTime : Nat := 24

/-- A claim frame starts 8 bit times after the frame that opened its round (R144). -/
def claimStartTime : Nat := 8

/-- Consecutive open bit times that make the bus idle (R141). -/
def idleRun : Nat := 11

/-- The gate pulse (R85). -/
def gatePulseTime : Nat := 15 * perMs

/-- A beam blocked this long is stuck (R94). -/
def stuckTime : Nat := 2000 * perMs

/-- The REFUSE pulse (R132). -/
def refuseTime : Nat := 200 * perMs

/-- The join timer (R159). -/
def joinTime : Nat := 400 * perMs

/-- One step of a removal timer, 100 ms (R71). -/
def removalStep : Nat := 100 * perMs

/-- The qualifying time of a beam, 0.5 ms (R182). -/
def beamQualify : Nat := perMs / 2

/-- The qualifying time of a cradle sensor, 50 ms (R182). -/
def sensorQualify : Nat := 50 * perMs

/-- The qualifying time of a button and of KEY, 20 ms (R182). -/
def panelQualify : Nat := 20 * perMs

/-- The device address of the profile memory (R182). -/
def profileAddress : BitVec 7 := 0b1010011

/-- The bytes of a profile image (R155). -/
def imageBytes : Nat := 64

/-- Capacity of the DRC's pending queue (R82). -/
def claimsMax : Nat := 32

/-- Capacity of the falling list (R86). -/
def fallingMax : Nat := 4

/-- Capacity of the Re-offer List (R101). -/
def reofferMax : Nat := 32

/-- Capacity of the notice queue (R149). -/
def noticesMax : Nat := 8

end Sys2Proof.Config
end

