-- ==== Sys2Proof/Machine/State.lean ====
section
/-! DEFINITION. The state of the block as plain data, one record per block of the part, and the state after
reset. A time that runs is held as the reading of the time base `State.now` at which it began (log 2). -/

namespace Sys2Proof.Machine

/-- The station modes (R154). -/
inductive Mode where
  | start
  | joining
  | active
  | draining
  | idle
  | stopped
  deriving DecidableEq, Repr

/-- The alert levels (R115). -/
inductive Level where
  | none
  | attn
  | stop
  deriving DecidableEq, Repr

/-- The alert causes in use (R116). -/
inductive Cause where
  | staleCradle
  | blocked
  | gaugeSilent
  | miss
  | stray
  | pitchSlip
  | passedClaim
  | prematureRemoval
  | removalOverdue
  | overspeed
  | holdOverrun
  | noticeLost
  | missRun
  | gateStuck
  | busFault
  | duplicate
  | profileBad
  deriving DecidableEq, Repr

/-- A cause record; its level and type follow from the cause (R115). -/
structure Record where
  cause : Cause
  param : BitVec 12
  stamp : BitVec 12
  deriving DecidableEq, Repr

/-- The Pitch Tracker (R1). -/
structure Tracker where
  /-- the gauge tag, `none` while unsynced -/
  p : Option Tag
  /-- the high-water tag -/
  h : Option Tag
  announceExpected : Bool
  /-- the unannounced-pitch count, 0..255 -/
  unannounced : Nat
  /-- the condition GAUGE-SILENT -/
  gaugeSilent : Bool
  /-- the hold reason BLOCKED -/
  holdBlocked : Bool
  /-- the hold reason STOP -/
  holdStop : Bool
  /-- the model's own: another party marks HOLD (log 4) -/
  holdOthers : Bool
  /-- the level read on HOLD is marked -/
  holdRead : Bool
  /-- the coast count, 0..4095 -/
  coast : Nat
  deriving DecidableEq, Repr

/-- A recipe record with its translated band (R17). -/
structure Recipe where
  low : Nat
  high : Nat
  gradeMask : BitVec 8
  acceptHead : Bool
  acceptBent : Bool
  /-- N, the bunch count -/
  n : Nat
  /-- S, the spread limit; 255 is no limit -/
  s : Nat
  /-- Q, the quota; 0 is unlimited -/
  q : Nat
  fallback : Bool
  /-- the state: OPEN (false) or EXHAUSTED -/
  exhausted : Bool
  made : Nat
  inProgress : Nat
  deriving DecidableEq, Repr

/-- The round states (R30). -/
inductive Round where
  | idle
  | bidding
  | lost
  | won
  deriving DecidableEq, Repr

/-- The chosen candidate of an open round (R30). -/
structure Candidate where
  kind : RoundKind
  stem : Stem
  cradle : Cradle
  recipe : Nat
  opening : Bool
  bid : Nat
  deriving DecidableEq, Repr

/-- The Claim Unit (R30). -/
structure ClaimUnit where
  round : Round
  chosen : Option Candidate
  /-- the model's own: the round is LOST because its start was given up (R41, log 8) -/
  gaveUp : Bool
  deriving DecidableEq, Repr

/-- The Re-offer List (R101); `sending` is the tag of the entry being sent. -/
structure ReofferList where
  entries : List Stem
  sending : Option Tag
  deriving DecidableEq, Repr

/-- A won claim: an entry of the spec's pending queue (R81). -/
structure Claim where
  stem : Stem
  cradle : Cradle
  kind : RoundKind
  deriving DecidableEq, Repr

/-- The window states of a falling entry (R81). -/
inductive Window where
  | waiting
  | opened
  deriving DecidableEq, Repr

/-- A released stem not yet seen to land or miss (R81). -/
structure Falling where
  claim : Claim
  fireTime : Nat
  window : Window
  deriving DecidableEq, Repr

/-- A drop beam with its blocked timer (R81). -/
structure Beam where
  blocked : Bool
  /-- when the running timer began; `none` is stopped -/
  timer : Option Nat
  /-- GATE-STUCK has been raised for this blocked spell -/
  stuckRaised : Bool
  deriving DecidableEq, Repr

/-- The Drop Controller (R81). -/
structure DropController where
  /-- the pending queue, head first -/
  claims : List Claim
  /-- the falling list, oldest first -/
  falling : List Falling
  missRun : Nat
  /-- the gate output: off, or the time of the fire that began the pulse -/
  gate : Option Nat
  diverter : Cradle
  gateLock : Bool
  beamA : Beam
  beamB : Beam
  deriving DecidableEq, Repr

/-- The cradle states (R56). -/
inductive CradleState where
  | absent
  | stale
  | empty
  | filling
  | closing
  | complete
  deriving DecidableEq, Repr

/-- A landed stem on a cradle's stack (R57). -/
structure Landed where
  tag : Tag
  length : Length
  grade : Grade
  kind : RoundKind
  verified : Bool
  deriving DecidableEq, Repr

/-- A cradle's envelope: the least and the greatest length (R59). -/
structure Envelope where
  least : Nat
  greatest : Nat
  deriving DecidableEq, Repr

/-- The completion types of a COMPLETE cradle (R56). -/
inductive Completion where
  | full
  | short
  deriving DecidableEq, Repr

/-- A cradle record (R56). -/
structure CradleRec where
  state : CradleState
  recipe : Option Nat
  /-- the landed stems, the most recent first -/
  stack : List Landed
  committed : Nat
  envelope : Option Envelope
  /-- when the removal timer last began a count from 0; `none` is stopped -/
  removal : Option Nat
  completion : Option Completion
  deriving DecidableEq, Repr

/-- The Cradle Manager (R56, R78). -/
structure CradleManager where
  cradleA : CradleRec
  cradleB : CradleRec
  /-- the condition BLOCKED as last worked out -/
  blocked : Bool
  deriving DecidableEq, Repr

/-- The Alert Controller (R115). -/
structure AlertController where
  current : Option Record
  saved : Option Record
  /-- the level-1 pending set, in code order -/
  pend1 : List Record
  /-- the level-2 pending set, in code order -/
  pend2 : List Record
  savedMode : Option Mode
  /-- the REFUSE pulse: off, or when it began -/
  refuse : Option Nat
  deriving DecidableEq, Repr

/-- How a bunch closed, as a BUNCH notice says it (12.1). -/
inductive BunchEnd where
  | full
  | short
  | abandoned
  deriving DecidableEq, Repr

/-- The fields of a BUNCH notice after the station number (R167 to R169). -/
structure Bunch where
  cradle : Cradle
  recipe : Nat
  completion : BunchEnd
  count : Nat
  least : Nat
  greatest : Nat
  mean : Nat
  reoffered : Nat
  unverified : Nat
  made : Nat
  deriving DecidableEq, Repr

/-- The fields of a JOIN notice after the station number (R172). -/
structure JoinFields where
  distance : Nat
  span : Nat
  recipeCount : Nat
  fallback : Bool
  holdWhenBlocked : Bool
  holdOnStop : Bool
  reoffer : Bool
  deriving DecidableEq, Repr

/-- The body of a STATUS frame (R175 to R178, 12.2); `refused` is the body of a refused answer (R173). -/
inductive StatusBody where
  | refused
  | mode (mode : Mode) (level : Level) (p h : Option Tag) (claims falling reoffers : Nat) (lost : Bool)
  | cradleMain (state : CradleState) (recipe : Option Nat) (completion : Option Completion)
      (landed committed : Nat) (envelope : Option Envelope)
  | cradleTop (top : Option Landed)
  | recipe (low high n : Nat) (exhausted fallback : Bool) (made inProgress : Nat)
  | alertMain (current : Option Record) (marks1 marks2 : List Bool)
  | alertPart (pending : Record)
  deriving DecidableEq, Repr

/-- A notice waiting in the notice queue (R149). An ALERT carries nothing until its frame starts (R151). -/
inductive Notice where
  | bunch (fields : Bunch)
  | quota (recipe made : Nat)
  | alert
  | join (fields : JoinFields)
  | conflict
  | status (topic : Fin 16) (body : StatusBody)
  deriving DecidableEq, Repr

/-- A frame this station sends, with its field values as fixed at its start mark (12.1). -/
inductive Frame where
  | claim (kind : RoundKind) (tag : Tag) (bid : Nat)
  | reoffer (station : StationNo) (stem : Stem)
  | conflict (station : StationNo)
  | alert (station : StationNo) (current : Option Record) (lost : Bool)
  | bunch (station : StationNo) (fields : Bunch)
  | quota (station : StationNo) (recipe made : Nat)
  | join (station : StationNo) (fields : JoinFields)
  | status (station : StationNo) (topic : Fin 16) (body : StatusBody)
  deriving DecidableEq, Repr

/-- The receiver states (R136). -/
inductive Receiver where
  | waitingIdle
  | waitingStart
  | inFrame
  deriving DecidableEq, Repr

/-- The Line Bus Interface (R136). -/
structure LineBus where
  receiver : Receiver
  /-- the open-bit run, 0..11 -/
  openRun : Nat
  /-- the frame the transmitter drives; `none` is the transmitter IDLE -/
  tx : Option Frame
  /-- the transmit-mismatch count, 0 or 1 -/
  mismatches : Nat
  /-- the notice queue, head first -/
  notices : List Notice
  lost : Bool
  lostDuring : Bool
  resend : Bool
  announcePending : Option Nat
  claimReserve : Option Nat
  reclaimReserve : Option Nat
  deriving DecidableEq, Repr

/-- The accepted profile, as clamped (R158). The recipes stand in the Recipe Table. -/
structure Profile where
  number : StationNo
  d : Nat
  span : Nat
  tmin : Nat
  tmax : Nat
  removalLimit : Nat
  holdWhenBlocked : Bool
  holdOnStop : Bool
  reoffer : Bool
  deriving DecidableEq, Repr

/-- The profile read (R154). -/
inductive ReadState where
  | reading
  | done
  deriving DecidableEq, Repr

/-- The join timer (R154): stopped, waiting for the JOIN to be sent, or running since a time. -/
inductive JoinTimer where
  | stopped
  | waiting
  | running (since : Nat)
  deriving DecidableEq, Repr

/-- The Mode Controller (R154). -/
structure ModeController where
  mode : Mode
  profileRead : ReadState
  profile : Option Profile
  joinTimer : JoinTimer
  deriving DecidableEq, Repr

/-- The qualifier of an input pin (R182). Every level is `true` for what 12.5 names: blocked, present, pressed,
on. -/
structure Qualifier where
  /-- the level at the pin now, which the outside world sets (log 15) -/
  pin : Bool
  /-- the qualified level -/
  level : Bool
  /-- the bit times for which the pin has read other than the qualified level -/
  run : Nat
  /-- the qualified level has stood unchanged since a reset ended with it at true: a button so held makes no
  request -/
  held : Bool
  deriving DecidableEq, Repr

/-- The input pins (12.5): the qualified ones, and PITCH and DIR, which have no qualifier. HOLDN stands in the
Pitch Tracker (`holdOthers`); the bus pair is taken bit by bit through the commands of chapter 8 (log 20). -/
structure Inputs where
  pins : Pins Qualifier
  /-- the level at PITCH now -/
  pitch : Bool
  /-- the level of PITCH at the last bit time, against which a leading edge is one (R4) -/
  pitchSeen : Bool
  /-- the level at DIR now: true is forward -/
  dir : Bool
  deriving DecidableEq, Repr

/-- The whole block: its eight blocks, its input pins, its time base, whether RESETN holds it, and the commands
waiting. -/
structure State where
  ptr : Tracker
  rct : List Recipe
  clu : ClaimUnit
  rol : ReofferList
  drc : DropController
  crm : CradleManager
  alc : AlertController
  lbi : LineBus
  mdc : ModeController
  inputs : Inputs
  /-- the internal time base, in bit times (log 1) -/
  now : Nat
  /-- RESETN is low (R136, R182) -/
  inReset : Bool
  /-- the commands waiting, first in, first out -/
  pending : List Instr
  deriving DecidableEq, Repr

/-- The faults of the machine: none. The spec gives the part no fault that stops it; its alert causes are
state of the Alert Controller (INVENTORY.md, "Faults"). -/
inductive Fault where
  deriving DecidableEq, Repr

/-- The reasons a command is refused. -/
inductive Refusal where
  /-- No meaning yet; raised by an arm of `exec` alone. Safe. No arm raises it in this package. -/
  | notModelled (mnemonic : String)
  /-- Raised by a meaning whose operand no bus can carry (`Instr.wellFormed` is false, log 6). Safe: the part
  never meets such a command. -/
  | illFormed (mnemonic : String)
  deriving DecidableEq, Repr

/-! ## Updates, one per block: the only way the operations write State -/

def State.setPtr (s : State) (x : Tracker) : State := { s with ptr := x }
def State.setRct (s : State) (x : List Recipe) : State := { s with rct := x }
def State.setClu (s : State) (x : ClaimUnit) : State := { s with clu := x }
def State.setRol (s : State) (x : ReofferList) : State := { s with rol := x }
def State.setDrc (s : State) (x : DropController) : State := { s with drc := x }
def State.setCrm (s : State) (x : CradleManager) : State := { s with crm := x }
def State.setAlc (s : State) (x : AlertController) : State := { s with alc := x }
def State.setLbi (s : State) (x : LineBus) : State := { s with lbi := x }
def State.setMdc (s : State) (x : ModeController) : State := { s with mdc := x }
def State.setInputs (s : State) (x : Inputs) : State := { s with inputs := x }
def State.setNow (s : State) (x : Nat) : State := { s with now := x }
def State.setInReset (s : State) (x : Bool) : State := { s with inReset := x }
def State.setPending (s : State) (x : List Instr) : State := { s with pending := x }

/-! ## After reset -/

/-- An ABSENT cradle: the after-reset record of a position that reads absent (R56, R62). -/
def CradleRec.absent : CradleRec :=
  { state := .absent, recipe := none, stack := [], committed := 0, envelope := none, removal := none,
    completion := none }

/-- A beam read clear when reset ends (R81). -/
def Beam.clear : Beam := { blocked := false, timer := none, stuckRaised := false }

/-- A qualifier whose first level after power-up is inactive. -/
def Qualifier.quiet : Qualifier := { pin := false, level := false, run := 0, held := false }

/-- Every input at its inactive level: beams clear, cradles absent, buttons released, KEY off, PITCH low, DIR
reverse (log 3). -/
def Inputs.quiet : Inputs :=
  let q := Qualifier.quiet
  { pins :=
      { beamA := q, beamB := q, sensorA := q, sensorB := q, pullA := q, pullB := q, finishA := q, finishB := q,
        clear := q, cancel := q, drain := q, resume := q, key := q }
    pitch := false
    pitchSeen := false
    dir := false }

/-- The machine right after a reset that found every input inactive and HOLD open (log 3), by the after-reset
tables of R1, R17, R30, R56, R81, R101, R115, R136 and R154. -/
def State.reset : State :=
  { ptr :=
      { p := none, h := none, announceExpected := false, unannounced := 0, gaugeSilent := false,
        holdBlocked := false, holdStop := false, holdOthers := false, holdRead := false, coast := 0 }
    rct := []
    clu := { round := .idle, chosen := none, gaveUp := false }
    rol := { entries := [], sending := none }
    drc :=
      { claims := [], falling := [], missRun := 0, gate := none, diverter := .a, gateLock := false,
        beamA := .clear, beamB := .clear }
    crm := { cradleA := .absent, cradleB := .absent, blocked := false }
    alc :=
      { current := none, saved := none, pend1 := [], pend2 := [], savedMode := none, refuse := none }
    lbi :=
      { receiver := .waitingIdle, openRun := 0, tx := none, mismatches := 0, notices := [], lost := false,
        lostDuring := false, resend := false, announcePending := none, claimReserve := none,
        reclaimReserve := none }
    mdc := { mode := .start, profileRead := .reading, profile := none, joinTimer := .stopped }
    inputs := .quiet
    now := 0
    inReset := false
    pending := [] }

end Sys2Proof.Machine
end

