-- ==== Sys2Proof/Machine/Pins.lean ====
section
/-! DEFINITION. The qualifiers of the input pins (R182): one bit time of each, what a command tells of a pin, and
the event a qualified change is. -/

namespace Sys2Proof

/-- The thing under a pin's name. -/
def Pins.get {α : Type} (x : Pins α) : Pin → α
  | .beam .a => x.beamA
  | .beam .b => x.beamB
  | .sensor .a => x.sensorA
  | .sensor .b => x.sensorB
  | .pull .a => x.pullA
  | .pull .b => x.pullB
  | .finish .a => x.finishA
  | .finish .b => x.finishB
  | .clear => x.clear
  | .cancel => x.cancel
  | .drain => x.drain
  | .resume => x.resume
  | .key => x.key

/-- One thing for each pin, by its name. -/
def Pins.of {α : Type} (f : Pin → α) : Pins α :=
  { beamA := f (.beam .a), beamB := f (.beam .b), sensorA := f (.sensor .a), sensorB := f (.sensor .b),
    pullA := f (.pull .a), pullB := f (.pull .b), finishA := f (.finish .a), finishB := f (.finish .b),
    clear := f .clear, cancel := f .cancel, drain := f .drain, resume := f .resume, key := f .key }

/-- The qualified pins in the order in which changes of one bit time are taken (log 15). -/
def Pin.all : List Pin :=
  [.beam .a, .beam .b, .sensor .a, .sensor .b, .pull .a, .pull .b, .finish .a, .finish .b, .clear, .cancel,
    .drain, .resume, .key]

/-- The qualifying time, in bit times (R182). -/
def Pin.qualifyTime : Pin → Nat
  | .beam _ => Config.beamQualify
  | .sensor _ => Config.sensorQualify
  | _ => Config.panelQualify

end Sys2Proof

namespace Sys2Proof.Machine

/-- A qualifier that takes the first level it reads once power is applied (R182). -/
def Qualifier.first (level : Bool) : Qualifier := { pin := level, level := level, run := 0, held := false }

/-- The qualified level has been replaced by the level at the pin. -/
def Qualifier.changes (q : Qualifier) (p : Pin) : Bool :=
  q.pin != q.level && p.qualifyTime ≤ q.run + 1

/-- One bit time of a qualifier (R182): a level other than the qualified one runs, becomes the qualified one when
it has held for the qualifying time, and is forgotten when it returns before. -/
def Qualifier.tick (q : Qualifier) (p : Pin) : Qualifier :=
  if q.changes p then .first q.pin
  else { q with run := if q.pin = q.level then 0 else q.run + 1 }

/-- A reset ends: a level at true is held from here on (R182). -/
def Qualifier.resetEnds (q : Qualifier) : Qualifier := { q with held := q.level }

/-- The qualifier after a change of its qualified level that a command tells of. -/
def Qualifier.told (q : Qualifier) (level : Bool) : Qualifier := if q.level = level then q else .first level

/-- The qualifier of a pin. -/
def State.qualifier (s : State) (p : Pin) : Qualifier := s.inputs.pins.get p

/-- Change the qualifier of every pin by its name. -/
def Inputs.onPins (x : Inputs) (f : Pin → Qualifier → Qualifier) : Inputs :=
  { x with pins := .of fun p => f p (x.pins.get p) }

/-- A command that is a qualified change of a beam or a cradle sensor says what its qualifier now holds
(log 15). -/
def State.told (s : State) (p : Pin) (level : Bool) : State :=
  s.setInputs (s.inputs.onPins fun x q => if x = p then q.told level else q)

/-- The event that a change of a qualified level is (R61, R88, R125): a press is a panel request with KEY as
qualified, a release is no event, and KEY is none of its own. -/
def Inputs.event (x : Inputs) (p : Pin) (level : Bool) : Option Instr :=
  match p, level with
  | .beam c, true => some (.beamBlocked c)
  | .beam c, false => some (.beamClear c)
  | .sensor c, true => some (.cradlePresent c)
  | .sensor c, false => some (.cradleAbsent c)
  | .pull c, true => some (.pull c)
  | .finish c, true => some (.finish c x.pins.key.level)
  | .clear, true => some (.clear x.pins.key.level)
  | .cancel, true => some .cancel
  | .drain, true => some .drain
  | .resume, true => some .resume
  | _, _ => none

/-- A leading edge of PITCH, with the direction DIR gives it (R4). -/
def Inputs.pulse (x : Inputs) : List Instr :=
  if x.pitch && !x.pitchSeen then [if x.dir then .forwardPulse else .reversePulse] else []

/-- The input pins after one bit time. -/
def Inputs.tick (x : Inputs) : Inputs :=
  { x.onPins fun p q => q.tick p with pitchSeen := x.pitch }

/-- The events of one bit time: a pulse, then the qualified changes in the order of the pins (log 15). -/
def Inputs.events (x : Inputs) : List Instr :=
  x.pulse ++ Pin.all.filterMap fun p =>
    if (x.pins.get p).changes p then x.tick.event p (x.pins.get p).pin else none

/-- One bit time at the input pins, with these levels at the qualified ones. -/
def Inputs.read (x : Inputs) (levels : Pins Bool) : Inputs :=
  (x.onPins fun p q => { q with pin := levels.get p }).tick

/-- The input pins over a reset in which power was applied, given the levels read from then on: each qualifier takes
the first level it reads, and qualifies changes from then on (R182). With power on all along, as they stand. -/
def Inputs.powerOn (x : Inputs) : List (Pins Bool) → Inputs
  | [] => x
  | first :: later => later.foldl Inputs.read (x.onPins fun p _ => .first (first.get p))

/-- The input pins when a reset ends: the qualifiers stand as they have run (R182); no edge of PITCH is carried over
(log 15). -/
def Inputs.resetEnds (x : Inputs) : Inputs :=
  { x.onPins fun _ q => q.resetEnds with pitchSeen := x.pitch }

end Sys2Proof.Machine
end

