-- ==== Sys2Proof/Machine/Operands.lean ====
section
/-! DEFINITION. The arithmetic on operands: tags and positions (chapter 1), the tests of a stem against a
recipe (chapter 2), candidates and bids (chapter 3). Pure functions of the state. -/

namespace Sys2Proof.Machine

/-! ## Tags and positions -/

/-- Tag `a` is before tag `b`: (b − a) mod 4096 lies in 1..2047 (R2). -/
def tagBefore (a b : Tag) : Bool := 1 ≤ (b - a).toNat && (b - a).toNat ≤ 2047

/-- The position of carrier `t` when the gauge tag is `p`: (P − t) mod 4096 (R3). -/
def pos (p t : Tag) : Nat := (p - t).toNat

/-- pos(t) by the station's own P; no carrier has a position while P is unsynced (R3). -/
def State.posOf (s : State) (t : Tag) : Option Nat := s.ptr.p.map (pos · t)

/-- A test on pos(t) that needs the accepted profile too; false while P is unsynced (R3). -/
def State.posTest (s : State) (t : Tag) (test : Profile → Nat → Bool) : Bool :=
  match s.mdc.profile, s.posOf t with
  | some f, some x => test f x
  | _, _ => false

/-- The carrier is at the station: pos(t) = D (R3). -/
def State.atStation (s : State) (t : Tag) : Bool := s.posTest t fun f x => x == f.d

/-- The carrier has passed the station: pos(t) in D + 1..2047 (R3). -/
def State.hasPassed (s : State) (t : Tag) : Bool := s.posTest t fun f x => f.d < x && x ≤ 2047

/-- The carrier has not reached the station: pos(t) < D (R46). -/
def State.notReached (s : State) (t : Tag) : Bool := s.posTest t fun f x => x < f.d

/-- The carrier is at least two pitches short of the station: D ≥ pos(t) + 2 (R52). -/
def State.reclaimable (s : State) (t : Tag) : Bool := s.posTest t fun f x => x + 2 ≤ f.d

/-- No station of the line can still bid for the carrier: pos(t) + 2 > span (R103, R105). -/
def State.expired (s : State) (t : Tag) : Bool := s.posTest t fun f x => f.span < x + 2

/-- Insert in tag order (R47, R104): after every entry whose tag is before the new one, right behind the last of
them. Where some place has every such entry ahead of it and every entry whose tag is after the new one behind it,
this is such a place. Where no place has, or more than one, as a tag 2048 or more from another can bring about, it
is the model's choice (log 19). -/
def insertByTag {α : Type} (tagOf : α → Tag) (e : α) : List α → List α
  | [] => [e]
  | x :: xs =>
    if (x :: xs).any fun y => tagBefore (tagOf y) (tagOf e) then x :: insertByTag tagOf e xs
    else e :: x :: xs

/-! ## Profile values, as they read before a profile is accepted too -/

/-- The number the Line Bus Interface holds (R141, R158). -/
def State.number (s : State) : Option StationNo := s.mdc.profile.map (·.number)

/-- A policy reads as disabled until a profile has been accepted (R13, R103, R121). -/
def State.policy (s : State) (f : Profile → Bool) : Bool := (s.mdc.profile.map f).getD false

/-- A time of the profile; before acceptance no event reads one (R81). -/
def State.profileTime (s : State) (f : Profile → Nat) : Nat := (s.mdc.profile.map f).getD 0

/-! ## Recipes -/

/-- The grade test: the mask accepts the grade (R20). -/
def Recipe.takesGrade (r : Recipe) (g : Grade) : Bool := r.gradeMask.getLsbD g.val

/-- The flag test: HEAD and BENT each clear or accepted, DOUBLE clear (R20). -/
def Recipe.takesFlags (r : Recipe) (st : Stem) : Bool :=
  (!st.head || r.acceptHead) && (!st.bent || r.acceptBent) && !st.double

/-- The stem test (R21). -/
def Recipe.stemTest (r : Recipe) (st : Stem) : Bool :=
  1 ≤ st.length.val && r.low ≤ st.length.val && st.length.val ≤ r.high && r.takesGrade st.grade
    && r.takesFlags st

/-- The binding test (R22). -/
def Recipe.canBind (r : Recipe) : Bool := !r.exhausted && (r.q == 0 || r.made + r.inProgress < r.q)

/-- A stem matches a recipe (R23). -/
def Recipe.accepts (r : Recipe) (st : Stem) : Bool := r.stemTest st && r.canBind

/-- The opening recipe for a stem: the lowest index it matches (R23). -/
def openingRecipe (rs : List Recipe) (st : Stem) : Option Nat := rs.findIdx? (·.accepts st)

/-- Some recipe is OPEN and can bind (R29). -/
def someCanBind (rs : List Recipe) : Bool := rs.any (·.canBind)

/-- Every recipe is EXHAUSTED; with an empty table the answer is no (R29). -/
def allExhausted (rs : List Recipe) : Bool := !rs.isEmpty && rs.all (·.exhausted)

/-! ## Cradles -/

/-- The cradle record of a position. -/
def State.cradle (s : State) : Cradle → CradleRec
  | .a => s.crm.cradleA
  | .b => s.crm.cradleB

/-- The cradle number of frames and parameters: 0 for A, 1 for B (12.1). -/
def cradleCode : Cradle → Nat
  | .a => 0
  | .b => 1

/-- k: the landed count plus the committed count (R56). -/
def CradleRec.k (c : CradleRec) : Nat := c.stack.length + c.committed

/-- The cradle is building: FILLING or CLOSING. -/
def CradleRec.building (c : CradleRec) : Bool := c.state == .filling || c.state == .closing

/-- The recipe a cradle is bound to. -/
def State.boundRecipe (s : State) (c : CradleRec) : Option Recipe := c.recipe.bind fun i => s.rct[i]?

/-! ## Candidates and bids -/

/-- lo..hi: the envelope with a stem of length `l` taken in; L..L when there is no envelope (R35). -/
def widen (e : Option Envelope) (l : Nat) : Envelope :=
  match e with
  | none => { least := l, greatest := l }
  | some e => { least := min e.least l, greatest := max e.greatest l }

/-- hi − lo. -/
def Envelope.spread (e : Envelope) : Nat := e.greatest - e.least

/-- The spread test: hi − lo is at most S, and S = 255 is no limit (R35). -/
def Recipe.fits (r : Recipe) (e : Envelope) : Bool := r.s == 255 || e.spread ≤ r.s

/-- The urgency field, by the first line of the table that applies (R36). -/
def urgency (r : Recipe) (k : Nat) : Nat :=
  if r.fallback then 3 else if k + 1 = r.n then 0 else if 1 ≤ k then 1 else 2

/-- The fill field: the whole part of 15 × (N − k − 1) / N (R37). -/
def fill (r : Recipe) (k : Nat) : Nat := 15 * (r.n - k - 1) / r.n

/-- The width field: the whole part of (hi − lo) / 2, at most 255 (R38). -/
def width (e : Envelope) : Nat := min 255 (e.spread / 2)

/-- The bid (R39). -/
def bidOf (r : Recipe) (k : Nat) (e : Envelope) (number : StationNo) : Nat :=
  urgency r k * 262144 + fill r k * 16384 + width e * 64 + number.val

/-- The first EMPTY cradle, A before B (R34). -/
def State.firstEmpty (s : State) : Option Cradle :=
  if s.crm.cradleA.state = .empty then some .a
  else if s.crm.cradleB.state = .empty then some .b
  else none

/-- The recipe index under which a cradle is a candidate for a stem, and whether as the opening candidate:
its bound recipe in FILLING (R33), the opening recipe for the first EMPTY cradle in ACTIVE (R34). -/
def State.candidateRecipe (s : State) (c : Cradle) (st : Stem) : Option (Nat × Bool) :=
  match (s.cradle c).state with
  | .filling => (s.cradle c).recipe.map fun i => (i, false)
  | .empty =>
    if s.mdc.mode = .active ∧ s.firstEmpty = some c then (openingRecipe s.rct st).map fun i => (i, true)
    else none
  | _ => none

/-- The candidate a cradle gives for a stem, with its bid, if it passes the stem test of its recipe and the
spread test (R33 to R39). -/
def State.candidate (s : State) (number : StationNo) (kind : RoundKind) (st : Stem) (c : Cradle) :
    Option Candidate :=
  match s.candidateRecipe c st with
  | none => none
  | some (i, opening) =>
    match s.rct[i]? with
    | none => none
    | some r =>
      let e := widen (if opening then none else (s.cradle c).envelope) st.length.val
      if r.stemTest st && r.fits e then
        some { kind := kind, stem := st, cradle := c, recipe := i, opening := opening,
               bid := bidOf r (if opening then 0 else (s.cradle c).k) e number }
      else none

/-- The chosen candidate: the lower bid, A when the bids are equal (R40). -/
def State.choose (s : State) (kind : RoundKind) (st : Stem) : Option Candidate :=
  match s.number with
  | none => none
  | some number =>
    match s.candidate number kind st .a, s.candidate number kind st .b with
    | some x, some y => if x.bid ≤ y.bid then some x else some y
    | some x, none => some x
    | none, y => y

/-- The modes in which a station bids (R32, R52). -/
def Mode.bids : Mode → Bool
  | .active | .draining => true
  | _ => false

/-- The tests common to both kinds of round: mode, P synced, L and DOUBLE, room for the claim (R32, R52). -/
def State.mayBid (s : State) (st : Stem) : Bool :=
  s.mdc.mode.bids && s.ptr.p.isSome && 1 ≤ st.length.val && !st.double
    && s.drc.claims.length < Config.claimsMax

/-- The tag is in the DRC's pending queue. -/
def State.hasClaim (s : State) (t : Tag) : Bool := s.drc.claims.any fun c => c.stem.tag == t

/-- The tag is in the Re-offer List. -/
def State.hasReoffer (s : State) (t : Tag) : Bool := s.rol.entries.any fun e => e.tag == t

/-- The tests of each kind of round but for the candidate: R32 adds "not pending", R52 the position. -/
def State.eligible (s : State) (kind : RoundKind) (st : Stem) : Bool :=
  s.mayBid st && (match kind with
    | .claim => !s.hasClaim st.tag
    | .reclaim => s.reclaimable st.tag)

end Sys2Proof.Machine
end

