-- ==== Sys2Proof/Machine/Flags.lean ====
section
/-! DEFINITION. The flags and outputs worked out from the state: codes and levels of causes (R116), the
alert level (R115), the conditions of the cradles (R62, R78, R79), the bus tests (R141), HOLD and the lamps
(R13, R131). -/

namespace Sys2Proof.Machine

/-- The cause code (R116). -/
def Cause.code : Cause → Nat
  | .staleCradle => 1
  | .blocked => 2
  | .gaugeSilent => 3
  | .miss => 4
  | .stray => 5
  | .pitchSlip => 6
  | .passedClaim => 7
  | .prematureRemoval => 8
  | .removalOverdue => 9
  | .overspeed => 10
  | .holdOverrun => 11
  | .noticeLost => 12
  | .missRun => 16
  | .gateStuck => 17
  | .busFault => 18
  | .duplicate => 19
  | .profileBad => 20

/-- A STOP cause is of level 2, an ATTENTION cause of level 1 (R116). -/
def Cause.isStop (c : Cause) : Bool := 16 ≤ c.code

/-- The three condition causes; every other cause is an event cause (R117). -/
def Cause.isCondition : Cause → Bool
  | .staleCradle | .blocked | .gaugeSilent => true
  | _ => false

/-- The alert level follows the current record (R115). -/
def State.level (s : State) : Level :=
  match s.alc.current with
  | none => .none
  | some r => if r.cause.isStop then .stop else .attn

/-- Put a record into a pending set: in code order, a code already there taking the new record (R115,
R118). -/
def putRecord (r : Record) : List Record → List Record
  | [] => [r]
  | x :: xs =>
    if x.cause = r.cause then r :: xs
    else if x.cause.code < r.cause.code then x :: putRecord r xs
    else r :: x :: xs

/-- Some cradle is STALE: the condition STALE-CRADLE (R63). -/
def State.someStale (s : State) : Bool :=
  s.crm.cradleA.state == .stale || s.crm.cradleB.state == .stale

/-- Some cradle is FILLING or CLOSING (R79). -/
def State.someBuilding (s : State) : Bool := s.crm.cradleA.building || s.crm.cradleB.building

/-- A cradle that can still take a new stem: EMPTY or FILLING (R78). -/
def CradleRec.available (c : CradleRec) : Bool := c.state == .empty || c.state == .filling

/-- The condition BLOCKED: ACTIVE, and neither cradle EMPTY or FILLING (R78). -/
def State.blockedNow (s : State) : Bool :=
  s.mdc.mode == .active && !s.crm.cradleA.available && !s.crm.cradleB.available

/-- The tests that take a building station to IDLE (R162, R163). -/
def State.idleNow (s : State) : Bool :=
  !s.someBuilding && ((s.mdc.mode == .active && allExhausted s.rct) || s.mdc.mode == .draining)

/-- The bus is idle (R141). -/
def State.busIdle (s : State) : Bool :=
  s.lbi.receiver == .waitingStart && s.lbi.openRun == Config.idleRun

/-- A bit time in which the station may start a frame on its own account, if it has one (R141). -/
def State.startPoint (s : State) : Bool :=
  s.busIdle && s.lbi.tx.isNone && s.lbi.announcePending.isNone && s.lbi.claimReserve.isNone
    && s.lbi.reclaimReserve.isNone && s.mdc.profile.isSome

/-- A frame of the Claim Unit is being driven. -/
def State.drivingClaim (s : State) : Bool :=
  match s.lbi.tx with
  | some (.claim _ _ _) => true
  | _ => false

/-- An ALERT frame is being driven. -/
def State.drivingAlert (s : State) : Bool :=
  match s.lbi.tx with
  | some (.alert _ _ _) => true
  | _ => false

/-- Another device's frame can end at the receiver: it is IN FRAME and drives nothing (R139, R140). -/
def State.receiving (s : State) : Bool := s.lbi.receiver == .inFrame && s.lbi.tx.isNone

/-! ## Outputs -/

/-- The two wires of the profile memory are in use: PMC is clocked and PMD driven while the profile is read, and
while RESETN is low PMC is driven low and PMD released (R154, R155, R182). -/
def State.readsMemory (s : State) : Bool := !s.inReset && s.mdc.profileRead == .reading

/-- HOLD is driven marked while either hold reason is true (R13). -/
def State.holdDrive (s : State) : Bool := s.ptr.holdBlocked || s.ptr.holdStop

/-- The gate output: high while a pulse is driven (R85). -/
def State.gateOutput (s : State) : Bool := s.drc.gate.isSome

/-- The lamp RUN (R131); while RESETN is low the lamps are dark (R182). -/
def State.lampRun (s : State) : Bool := !s.inReset && s.mdc.mode.bids && s.level != .stop

/-- The lamp ATTN (R131). -/
def State.lampAttn (s : State) : Bool := !s.inReset && s.level == .attn

/-- The lamp STOP (R131). -/
def State.lampStop (s : State) : Bool := !s.inReset && s.level == .stop

/-- The lamps FULL-A and FULL-B (R131). -/
def State.lampFull (s : State) (c : Cradle) : Bool := !s.inReset && (s.cradle c).state == .complete

/-- The lamp REFUSE (R131, R132). -/
def State.lampRefuse (s : State) : Bool := !s.inReset && s.alc.refuse.isSome

end Sys2Proof.Machine
end

