-- ==== Sys2Proof/Machine/Ops.lean ====
section
/-! DEFINITION. The named operations the meanings are made of, block by block: HOLD, the notice queue and
the alert records, the Re-offer List, the claim round, recipes and cradles, entering STOP, and what is worked
out again at the end of an event. -/

namespace Sys2Proof.Machine

/-- Write the cradle record of a position. -/
def State.setCradle (s : State) (c : Cradle) (r : CradleRec) : State :=
  match c with
  | .a => s.setCrm { s.crm with cradleA := r }
  | .b => s.setCrm { s.crm with cradleB := r }

/-- The drop beam of a position. -/
def State.beam (s : State) : Cradle → Beam
  | .a => s.drc.beamA
  | .b => s.drc.beamB

/-- Write the drop beam of a position. -/
def State.setBeam (s : State) (c : Cradle) (b : Beam) : State :=
  match c with
  | .a => s.setDrc { s.drc with beamA := b }
  | .b => s.setDrc { s.drc with beamB := b }

/-- Set the mode alone. -/
def State.putMode (s : State) (m : Mode) : State := s.setMdc { s.mdc with mode := m }

/-- An event that is the end of a timed wait says that its time has come (log 2). -/
def State.reach (s : State) (t : Nat) : State := s.setNow (max s.now t)

/-! ## HOLD (R13, R14) -/

/-- Take the level on HOLD as it now is: the station's own drive or another party's. A change of level
begins or ends a hold episode and sets the coast count to 0 (R14). -/
def State.readHold (s : State) : State :=
  let level := s.holdDrive || s.ptr.holdOthers
  if level = s.ptr.holdRead then s else s.setPtr { s.ptr with holdRead := level, coast := 0 }

/-- Set the hold reason BLOCKED (R13). -/
def State.setHoldBlocked (s : State) (v : Bool) : State :=
  (s.setPtr { s.ptr with holdBlocked := v }).readHold

/-- Set the hold reason STOP (R13). -/
def State.setHoldStop (s : State) (v : Bool) : State :=
  (s.setPtr { s.ptr with holdStop := v }).readHold

/-! ## The notice queue and the lost flag (R149 to R152) -/

/-- Set the lost flag, and lost during send while a frame is being sent (R150). -/
def State.putLost (s : State) : State :=
  s.setLbi { s.lbi with lost := true, lostDuring := s.lbi.lostDuring || s.lbi.tx.isSome }

/-- The ALERT notice for a change of the current record (R151): an ALERT already queued stands for the
change, and is marked to be sent again when its frame is on the bus; else a new one joins the tail. `full`
says what a full queue does. -/
def State.alertNotice (s : State) (full : State → State) : State :=
  if .alert ∈ s.lbi.notices then
    if s.drivingAlert then s.setLbi { s.lbi with resend := true } else s
  else if s.lbi.notices.length < Config.noticesMax then
    s.setLbi { s.lbi with notices := s.lbi.notices ++ [.alert] }
  else full s

/-- The stamp of a raise: P, or 0 while P is unsynced (R116). -/
def State.stamp (s : State) : BitVec 12 := s.ptr.p.getD 0

/-- Raise a level-1 cause (R118, R122), given what its ALERT notice does at a full queue. -/
def State.attention (s : State) (c : Cause) (param : BitVec 12) (full : State → State) : State :=
  let r : Record := { cause := c, param := param, stamp := s.stamp }
  match s.alc.current with
  | none => (s.setAlc { s.alc with current := some r }).alertNotice full
  | some _ => s.setAlc { s.alc with pend1 := putRecord r s.alc.pend1 }

/-- A notice (or a QUERY) is discarded at a full queue (R150): the lost flag is set, and NOTICE-LOST is
raised when the flag was clear. The ALERT that raise may make finds the flag already set, so its own
discard raises nothing. -/
def State.discardNotice (s : State) : State :=
  if s.lbi.lost then s.putLost else s.putLost.attention .noticeLost 0 State.putLost

/-- Each change of the current record or of the level queues an ALERT notice (R133). -/
def State.queueAlert (s : State) : State := s.alertNotice State.discardNotice

/-- A notice joins the tail of the queue, or is discarded when the queue is full (R149, R150). -/
def State.joinNotice (s : State) (n : Notice) : State :=
  if s.lbi.notices.length < Config.noticesMax then
    s.setLbi { s.lbi with notices := s.lbi.notices ++ [n] }
  else s.discardNotice

/-! ## Level-1 records (R118 to R120) -/

/-- Raise a level-1 cause. -/
def State.raise1 (s : State) (c : Cause) (param : BitVec 12) : State :=
  s.attention c param State.discardNotice

/-- The current level-1 record retires and the lowest pending code becomes current (R119). -/
def State.retire1 (s : State) : State :=
  (s.setAlc { s.alc with current := s.alc.pend1.head?, pend1 := s.alc.pend1.tail }).queueAlert

/-- The end report of a condition (R117, R119, R120): it leaves the place it stands in. -/
def State.endCondition (s : State) (c : Cause) : State :=
  if s.alc.current.any (fun r => r.cause == c) then s.retire1
  else
    s.setAlc { s.alc with
      saved := s.alc.saved.filter fun r => r.cause != c
      pend1 := s.alc.pend1.filter fun r => r.cause != c }

/-! ## The Re-offer List (R103 to R105) -/

/-- The list takes a forfeited stem: it is discarded under the policy, when expired, when its tag is there
already or when the list is full, and inserted in tag order otherwise (R103, R104). -/
def State.reoffer (s : State) (st : Stem) : State :=
  if !s.policy (·.reoffer) || s.expired st.tag || s.hasReoffer st.tag
      || Config.reofferMax ≤ s.rol.entries.length then s
  else s.setRol { s.rol with entries := insertByTag (·.tag) st s.rol.entries }

/-- Stems given up one after another in one event (R102). -/
def State.reofferAll (s : State) : List Stem → State
  | [] => s
  | st :: sts => (s.reoffer st).reofferAll sts

/-- The expiry check over the whole list; the entry being sent is exempt (R105, R108). -/
def State.expire (s : State) : State :=
  s.setRol { s.rol with
    entries := s.rol.entries.filter fun e => !s.expired e.tag || s.rol.sending == some e.tag }

/-! ## The claim round (R30, R31, R41, R45) -/

/-- Return to IDLE and discard the chosen candidate (R30). -/
def State.roundIdle (s : State) : State :=
  s.setClu { round := .idle, chosen := none, gaveUp := false }

/-- Stop driving a frame of the Claim Unit, if one is driven. -/
def State.stopClaimFrame (s : State) : State :=
  if s.drivingClaim then s.setLbi { s.lbi with tx := none } else s

/-- A bidder that has not yet driven its start mark gives up its start and goes to LOST (R41). -/
def State.giveUpStart (s : State) : State :=
  if s.clu.round = .bidding ∧ s.drivingClaim = false then
    s.setClu { s.clu with round := .lost, gaveUp := true }
  else s

/-- A LOST round that lost arbitration ends with the frame it was receiving (R42). -/
def State.endLostFrame (s : State) : State :=
  if s.clu.round = .lost ∧ s.clu.gaveUp = false then s.roundIdle else s

/-- A LOST round ends when the bus goes idle, whichever way it was lost (R41, R42). -/
def State.endLost (s : State) : State := if s.clu.round = .lost then s.roundIdle else s

/-- Forfeit the stem of the round at once (R49). -/
def State.forfeitChosen (s : State) : State :=
  match s.clu.chosen with
  | none => s
  | some c => s.reoffer c.stem

/-- A change of mode away from ACTIVE and DRAINING, by the round state it finds (R45). -/
def State.modeEndsRound (s : State) : State :=
  match s.clu.round with
  | .idle => s
  | .bidding => if s.drivingClaim then s.stopClaimFrame.roundIdle else s.giveUpStart
  | .lost => s
  | .won => s.stopClaimFrame.forfeitChosen.roundIdle

/-- Change the station mode and tell the Claim Unit (R45, R154). -/
def State.changeMode (s : State) (m : Mode) : State :=
  if m.bids then s.putMode m else (s.putMode m).modeEndsRound

/-- Open a round of a kind for a stem (R31): an earlier round is ended first, and an eligible station with
a candidate fixes it and goes to BIDDING. -/
def State.openRound (s : State) (kind : RoundKind) (st : Stem) : State :=
  let s := s.stopClaimFrame.roundIdle
  match if s.eligible kind st then s.choose kind st else none with
  | none => s
  | some c => s.setClu { round := .bidding, chosen := some c, gaveUp := false }

/-! ## Recipes (R24 to R27) -/

/-- Change one record of the Recipe Table. -/
def State.onRecipe (s : State) (i : Nat) (f : Recipe → Recipe) : State :=
  s.setRct (s.rct.modify i f)

/-- A granted bind (R24). -/
def Recipe.bound (r : Recipe) : Recipe := { r with inProgress := r.inProgress + 1 }

/-- An unbind (R25) or an abandonment (R27). -/
def Recipe.unbound (r : Recipe) : Recipe := { r with inProgress := r.inProgress - 1 }

/-- A completion (R26): made goes up by one, stopping at 4095 when Q is 0, and a made count that equals Q
exhausts the recipe. -/
def Recipe.completed (r : Recipe) : Recipe :=
  let made := if r.q = 0 then min 4095 (r.made + 1) else r.made + 1
  { r with
    inProgress := r.inProgress - 1
    made := made
    exhausted := r.exhausted || (r.q != 0 && made == r.q) }

/-- The completion report of recipe `i` (R26): the counts, and a QUOTA notice when it exhausts the recipe. -/
def State.completionReport (s : State) (i : Nat) : State :=
  match s.rct[i]? with
  | none => s
  | some r =>
    let s := s.onRecipe i fun _ => r.completed
    if !r.exhausted && r.completed.exhausted then s.joinNotice (.quota i r.completed.made) else s

/-! ## Cradles (R59, R60, R67 to R70) -/

/-- The lengths of a cradle's committed stems, read from the pending queue and the falling list (R59). -/
def State.committedLengths (s : State) (c : Cradle) : List Nat :=
  (s.drc.claims.filter (·.cradle = c)).map (·.stem.length.val)
    ++ (s.drc.falling.filter (·.claim.cradle = c)).map (·.claim.stem.length.val)

/-- The least and greatest of a list of lengths; absent when there is none. -/
def envelopeOf (ls : List Nat) : Option Envelope := ls.foldl (fun e l => some (widen e l)) none

/-- The envelope worked out afresh over the stack and the committed stems (R59, R60). -/
def State.envelopeNow (s : State) (c : Cradle) : Option Envelope :=
  envelopeOf ((s.cradle c).stack.map (·.length.val) ++ s.committedLengths c)

/-- What a bound cradle becomes after a stem has left its count (R60, R68, R69): the envelope is recomputed,
k = 0 unbinds it with the unbind report, and a CLOSING cradle goes back to FILLING. -/
def State.afterLoss (s : State) (c : Cradle) : State :=
  let r := s.cradle c
  if r.building then
    if r.k = 0 then
      let s' := s.setCradle c { r with state := .empty, recipe := none, envelope := none }
      match r.recipe with
      | none => s'
      | some i => s'.onRecipe i Recipe.unbound
    else s.setCradle c { r with state := .filling, envelope := s.envelopeNow c }
  else s

/-- Un-commit `n` stems of a cradle as one event (R68). -/
def State.uncommit (s : State) (c : Cradle) (n : Nat) : State :=
  if n = 0 then s
  else (s.setCradle c { s.cradle c with committed := (s.cradle c).committed - n }).afterLoss c

/-- The mean of lengths, a half rounded up: the whole part of (2 × sum + count) / (2 × count) (R168). -/
def meanLength (ls : List Nat) : Nat := (2 * ls.sum + ls.length) / (2 * ls.length)

/-- The BUNCH notice over a cradle's stack as it stands (R167 to R169). -/
def State.bunchOf (s : State) (c : Cradle) (why : BunchEnd) : Bunch :=
  let r := s.cradle c
  let ls := r.stack.map (·.length.val)
  { cradle := c
    recipe := r.recipe.getD 0
    completion := why
    count := r.stack.length
    least := ((envelopeOf ls).map (·.least)).getD 0
    greatest := ((envelopeOf ls).map (·.greatest)).getD 0
    mean := meanLength ls
    reoffered := (r.stack.filter (·.kind = .reclaim)).length
    unverified := (r.stack.filter (!·.verified)).length
    made := ((s.boundRecipe r).map (·.made)).getD 0 }

/-- A cradle enters COMPLETE (R70): the completion type, the completion report, the BUNCH notice, and the
removal timer, in that order. -/
def State.complete (s : State) (c : Cradle) (how : Completion) : State :=
  let s := s.setCradle c { s.cradle c with state := .complete, completion := some how }
  let s := match (s.cradle c).recipe with
    | none => s
    | some i => s.completionReport i
  let s := s.joinNotice (.bunch (s.bunchOf c (match how with | .full => .full | .short => .short)))
  s.setCradle c { s.cradle c with removal := some s.now }

/-- The stack entry of a landed claim (R57). -/
def Claim.landed (e : Claim) (verified : Bool) : Landed :=
  { tag := e.stem.tag, length := e.stem.length, grade := e.stem.grade, kind := e.kind,
    verified := verified }

/-- A landing (R67): the stem is pushed, the committed count goes down, and a landed count of N completes
the bunch FULL. -/
def State.land (s : State) (e : Claim) (verified : Bool) : State :=
  let r := s.cradle e.cradle
  let r := { r with stack := e.landed verified :: r.stack, committed := r.committed - 1 }
  let s := s.setCradle e.cradle r
  match s.boundRecipe r with
  | none => s
  | some rec => if r.stack.length = rec.n then s.complete e.cradle .full else s

/-! ## The Drop Controller's releases (R96 to R98) -/

/-- Forfeit the pending entries of one cradle, in tag order (R97). -/
def State.forfeitCradle (s : State) (c : Cradle) : State :=
  let gone := s.drc.claims.filter (·.cradle = c)
  (s.setDrc { s.drc with claims := s.drc.claims.filter (·.cradle ≠ c) }).reofferAll (gone.map (·.stem))

/-- Discard the falling entries of one cradle (R96). -/
def State.discardFalling (s : State) (c : Cradle) : State :=
  s.setDrc { s.drc with falling := s.drc.falling.filter (·.claim.cradle ≠ c) }

/-- The number of pending entries that target a cradle. -/
def State.claimCount (s : State) (c : Cradle) : Nat := (s.drc.claims.filter (·.cradle = c)).length

/-- Entry to STOP at the Drop Controller (R98): every pending entry is forfeited, each cradle's un-commits
are one event, and the gate is locked. -/
def State.stopForfeit (s : State) : State :=
  let gone := s.drc.claims
  let na := s.claimCount .a
  let nb := s.claimCount .b
  let s := s.setDrc { s.drc with claims := [], gateLock := true }
  ((s.reofferAll (gone.map (·.stem))).uncommit .a na).uncommit .b nb

/-! ## What is worked out again after an event (R78, R162, R163) -/

/-- The Cradle Manager works out BLOCKED again, and raises or ends it (R78, R13). -/
def State.reviewBlocked (s : State) : State :=
  if s.blockedNow = s.crm.blocked then s
  else if s.blockedNow then
    ((s.setCrm { s.crm with blocked := true }).raise1 .blocked 0).setHoldBlocked
      (s.policy (·.holdWhenBlocked))
  else
    ((s.setCrm { s.crm with blocked := false }).endCondition .blocked).setHoldBlocked false

/-- The Mode Controller's test that takes a building station to IDLE, made as a cradle leaves FILLING or CLOSING
(R162, R163). -/
def State.reviewIdle (s : State) : State := if s.idleNow then s.changeMode .idle else s

/-- The end of an event that changed cradles or the mode: the test for IDLE, then BLOCKED (log 11). -/
def State.settle (s : State) : State := s.reviewIdle.reviewBlocked

/-! ## STOP (R121 to R124) -/

/-- Enter STOP on a level-2 cause (R121), in the order of its steps; the end report of BLOCKED comes after. -/
def State.enterStop (s : State) (c : Cause) (param : BitVec 12) : State :=
  let r : Record := { cause := c, param := param, stamp := s.stamp }
  let s := (s.setAlc { s.alc with saved := s.alc.current, current := some r }).queueAlert
  let s := s.setAlc { s.alc with savedMode := some s.mdc.mode }
  let s := s.changeMode .stopped
  let s := s.stopForfeit
  let s := if s.policy (·.holdOnStop) then s.setHoldStop true else s
  s.reviewBlocked

/-- Raise a level-2 cause: it enters STOP, or waits in the level-2 pending set (R121, R122). -/
def State.raise2 (s : State) (c : Cause) (param : BitVec 12) : State :=
  if s.level = .stop then
    s.setAlc { s.alc with
      pend2 := putRecord { cause := c, param := param, stamp := s.stamp } s.alc.pend2 }
  else s.enterStop c param

/-- STOP ends (R123, R124), in the order of R124: the record that follows becomes current; the mode returns,
with the test it calls for and BLOCKED worked out again (log 11); the gate unlocks and the miss run is 0; the
hold reason STOP is cleared. -/
def State.endStop (s : State) : State :=
  let s :=
    match s.alc.saved with
    | some r => s.setAlc { s.alc with current := some r, saved := none }
    | none => s.setAlc { s.alc with current := s.alc.pend1.head?, pend1 := s.alc.pend1.tail }
  let s := s.queueAlert
  let s := s.changeMode (s.alc.savedMode.getD s.mdc.mode)
  let s := (s.setAlc { s.alc with savedMode := none }).settle
  let s := s.setDrc { s.drc with gateLock := false, missRun := 0 }
  s.setHoldStop false

/-- The current level-2 record retires: the lowest level-2 code follows, or STOP ends (R123). -/
def State.retire2 (s : State) : State :=
  match s.alc.pend2 with
  | r :: rs => (s.setAlc { s.alc with current := some r, pend2 := rs }).queueAlert
  | [] => s.endStop

/-! ## Announce pending and the ends of frames (R11, R12, R139 to R143) -/

/-- The pitch goes unannounced (R11): the count goes up, the flag is cleared, and a count of 8 begins
GAUGE-SILENT with parameter P, or 0 while P is unsynced (R12). -/
def State.unannouncedPitch (s : State) : State :=
  let n := min 255 (s.ptr.unannounced + 1)
  let s := s.setPtr { s.ptr with unannounced := n, announceExpected := false }
  if n = 8 ∧ s.ptr.gaugeSilent = false then
    (s.setPtr { s.ptr with gaugeSilent := true }).raise1 .gaugeSilent s.stamp
  else s

/-- An end of announce pending, reported to the Pitch Tracker (R11, R142). With the period not running there
is nothing to end. -/
def State.endAnnouncePending (s : State) : State :=
  if s.lbi.announcePending.isSome then
    let s := s.setLbi { s.lbi with announcePending := none }
    if s.ptr.announceExpected then s.unannouncedPitch else s
  else s

/-- The end of any frame at the receiver: back to WAITING FOR START with the run at 0 (R139), a running
reserve ends (R143), and a round that lost arbitration returns to IDLE (R42). -/
def State.frameEnd (s : State) : State :=
  (s.setLbi { s.lbi with
    receiver := .waitingStart, openRun := 0, claimReserve := none, reclaimReserve := none }).endLostFrame

/-- The end of a frame this station has driven to its last check bit: a successful frame sets the
transmit-mismatch count to 0 (R148). -/
def State.ownFrameEnd (s : State) : State :=
  (s.setLbi { s.lbi with tx := none, mismatches := 0 }).frameEnd

/-- The station starts driving a frame: it drives and reads the start mark (R137, R139). -/
def State.drive (s : State) (f : Frame) : State :=
  s.setLbi { s.lbi with tx := some f, receiver := .inFrame, openRun := 0 }

/-- The claim reserve opens (R143). -/
def State.openClaimReserve (s : State) : State :=
  s.setLbi { s.lbi with claimReserve := some s.now }

/-- The reclaim reserve opens (R143). -/
def State.openReclaimReserve (s : State) : State :=
  s.setLbi { s.lbi with reclaimReserve := some s.now }

/-- What follows once the kind of an ended frame with no good check is known: kind 0 ends announce pending
and opens the claim reserve, kind 3 opens the reclaim reserve (R140). -/
def State.badFrame (s : State) : FrameKind → State
  | .announce => s.endAnnouncePending.openClaimReserve
  | .reoffer => s.openReclaimReserve
  | _ => s

/-! ## The panel, and the guard of every command -/

/-- A refused panel request starts the REFUSE pulse, or starts it again (R132). -/
def State.refusePulse (s : State) : State := s.setAlc { s.alc with refuse := some s.now }

/-- An event is taken only while the part is not held in reset (R136, R182): held in reset it changes
nothing. -/
def running (s : State) (f : State → State) : Host.Outcome State Fault Refusal :=
  .next (if s.inReset then s else f s)

/-- A press of a button is a panel request (R125), but not while the button is held down from before the end of a
reset (R182). -/
def request (s : State) (button : Pin) (f : State → State) : Host.Outcome State Fault Refusal :=
  running s fun s => if (s.qualifier button).held then s else f s

end Sys2Proof.Machine
end

