-- ==== Sys2Proof/WellFormed.lean ====
section
/-! DEFINITION. Which commands can be given at all: the operand checks the types do not already make. -/

namespace Sys2Proof

/-- Kind codes 11..15 name no kind (R137). -/
def unknownCode (code : BitVec 4) : Bool := 11 ≤ code.toNat

/-- The kinds NOTICE_RECEIVED stands for: the last row of the table of R140. -/
def FrameKind.isPassiveNotice : FrameKind → Bool
  | .alert | .bunch | .quota | .status => true
  | _ => false

/-- A command whose operands the block can meet. -/
def Instr.wellFormed : Instr → Bool
  | .unknownKindFrame code => unknownCode code
  | .noticeReceived kind => kind.isPassiveNotice
  | _ => true

end Sys2Proof
end

