-- ==== Sys2Proof/Machine/Bus.lean ====
section
/-! DEFINITION. The commands of the line bus itself (chapter 8): start marks, losses and mismatches, frames
that end badly or mean nothing, the idle bus and the ends of the reserves. -/

namespace Sys2Proof.Machine

/-- A marked bit outside a frame (R139): a start mark takes the receiver into a frame, ends the idle bus and
makes a bidder that has not started give up (R41); while the receiver waits for idle it only sets the run
back to 0. -/
def State.startMark (s : State) : State :=
  match s.lbi.receiver with
  | .waitingIdle => s.setLbi { s.lbi with openRun := 0 }
  | .waitingStart => (s.setLbi { s.lbi with receiver := .inFrame, openRun := 0 }).giveUpStart
  | .inFrame => s

/-- START_MARK: R139, R41, R146. -/
def execStartMark (s : State) : Host.Outcome State Fault Refusal := running s State.startMark

/-- BUS_IDLE: the eleventh consecutive open bit outside a frame (R139, R141); a LOST round returns to IDLE
(R41, R42). -/
def execBusIdle (s : State) : Host.Outcome State Fault Refusal :=
  running s fun s =>
    if s.lbi.receiver = .inFrame then s
    else (s.setLbi { s.lbi with receiver := .waitingStart, openRun := Config.idleRun }).endLost

/-- What a frame that was being driven leaves behind when it is not sent: a REOFFER entry and a notice stay
where they were (R107, R146, R147). -/
def State.stopDriving (s : State) : State :=
  let s := s.setRol { s.rol with sending := none }
  s.setLbi { s.lbi with tx := none }

/-- Losing arbitration (R145): the station stops driving and goes on receiving. A bidder goes to LOST (R42);
in WON the arbitration field is over, so there is no loss (R44). -/
def State.loseArbitration (s : State) : State :=
  if s.drivingClaim then
    if s.clu.round = .bidding then
      s.stopDriving.setClu { s.clu with round := .lost, gaveUp := false }
    else s
  else if s.lbi.tx.isSome then s.stopDriving
  else s

/-- ARBITRATION_LOSS: R145, R42, R107, R146. -/
def execArbitrationLoss (s : State) : Host.Outcome State Fault Refusal :=
  running s State.loseArbitration

/-- The transmit-mismatch count (R148): a second mismatch with no successful frame between raises BUS-FAULT
and sets the count back to 0. -/
def State.countMismatch (s : State) : State :=
  if s.lbi.mismatches = 0 then s.setLbi { s.lbi with mismatches := 1 }
  else (s.setLbi { s.lbi with mismatches := 0 }).raise2 .busFault 0

/-- The receiver after a mismatch. At the start mark it read an open bit, so no frame has begun: the run it
had goes on (11 at a start point, 8 bit times and this one for a claim frame, R141, R144). Later in a frame
it stays IN FRAME (log 16). -/
def State.mismatchReceiver (s : State) (atStart : Bool) : State :=
  if atStart then
    s.setLbi { s.lbi with
      receiver := .waitingStart
      openRun := if s.drivingClaim then Config.claimStartTime + 1 else Config.idleRun }
  else s

/-- A transmit mismatch (R147): the frame is abandoned, a round ends with no commit and no forfeit (R44), and
the mismatch is counted (R148). -/
def State.mismatch (s : State) (atStart : Bool) : State :=
  if s.lbi.tx.isSome then
    let s' := (s.mismatchReceiver atStart).stopDriving
    (if s.drivingClaim then s'.roundIdle else s').countMismatch
  else s

/-- TRANSMIT_MISMATCH: R147, R148, R44, R107. -/
def execTransmitMismatch (atStart : Bool) (s : State) : Host.Outcome State Fault Refusal :=
  running s fun s => s.mismatch atStart

/-- BAD_CHECK_FRAME: the frame is discarded, but for what its kind ends or opens (R140). -/
def execBadCheckFrame (kind : FrameKind) (s : State) : Host.Outcome State Fault Refusal :=
  running s fun s => if s.receiving then s.frameEnd.badFrame kind else s

/-- A frame cut short (R139, R140): the bus is idle at that point, running reserves end (R143), a LOST round
returns to IDLE (R41, R42), and kind 0 ends announce pending but opens no reserve. -/
def State.cutShort (s : State) (kind : FrameKind) : State :=
  let s := s.frameEnd
  let s := (s.setLbi { s.lbi with openRun := Config.idleRun }).endLost
  if kind = .announce then s.endAnnouncePending else s

/-- FRAME_CUT_SHORT: R139, R140, R143, R42. -/
def execFrameCutShort (kind : FrameKind) (s : State) : Host.Outcome State Fault Refusal :=
  running s fun s => if s.receiving then s.cutShort kind else s

/-- A kind of 11..15 (R139): what was read is discarded and the receiver waits for idle, with its run at 0
(log 12). The frame ends for a reserve at that point (R140, R143, log 13). -/
def State.unknownKind (s : State) : State :=
  s.setLbi { s.lbi with
    receiver := .waitingIdle, openRun := 0, claimReserve := none, reclaimReserve := none }

/-- UNKNOWN_KIND_FRAME: R139. A code below 11 is refused as ill-formed. -/
def execUnknownKindFrame (code : BitVec 4) (s : State) : Host.Outcome State Fault Refusal :=
  if unknownCode code then running s fun s => if s.receiving then s.unknownKind else s
  else .refused (.illFormed "UNKNOWN_KIND_FRAME")

/-- CLAIM_RESERVE_END: 24 bit times with no start mark since the claim reserve began (R143). -/
def execClaimReserveEnd (s : State) : Host.Outcome State Fault Refusal :=
  running s fun s =>
    match s.lbi.claimReserve with
    | none => s
    | some t =>
      if s.lbi.receiver = .inFrame then s
      else (s.reach (t + Config.reserveTime)).setLbi { s.lbi with claimReserve := none }

/-- RECLAIM_RESERVE_END: 24 bit times with no start mark since the reclaim reserve began (R143). -/
def execReclaimReserveEnd (s : State) : Host.Outcome State Fault Refusal :=
  running s fun s =>
    match s.lbi.reclaimReserve with
    | none => s
    | some t =>
      if s.lbi.receiver = .inFrame then s
      else (s.reach (t + Config.reserveTime)).setLbi { s.lbi with reclaimReserve := none }

/-- NOTICE_RECEIVED: an ALERT, BUNCH, QUOTA or STATUS of another device is discarded (R140). Another kind is
refused as ill-formed. -/
def execNoticeReceived (kind : FrameKind) (s : State) : Host.Outcome State Fault Refusal :=
  if kind.isPassiveNotice then running s fun s => if s.receiving then s.frameEnd else s
  else .refused (.illFormed "NOTICE_RECEIVED")

end Sys2Proof.Machine
end

