-- ==== Sys2Proof/Machine/ClaimRound.lean ====
section
/-! DEFINITION. The commands of the claim round (chapter 3): the start of a claim frame, WON, and the commit
at its end; and what other devices' claim and REOFFER frames do. -/

namespace Sys2Proof.Machine

/-! ## The commit (R46 to R49) -/

/-- The cradle part of the recheck (R46): a FILLING candidate's cradle is still FILLING on the same recipe and
the stem fits its envelope; an opening candidate's cradle is EMPTY, the mode ACTIVE, and the recipe can bind
(R24). -/
def State.canTake (s : State) (c : Candidate) : Bool :=
  let r := s.cradle c.cradle
  match s.rct[c.recipe]? with
  | none => false
  | some rec =>
    if c.opening then s.mdc.mode == .active && r.state == .empty && rec.canBind
    else r.state == .filling && r.recipe == some c.recipe
      && rec.fits (widen r.envelope c.stem.length.val)

/-- The recheck of a win (R46). -/
def State.recheck (s : State) (c : Candidate) : Bool :=
  s.mdc.mode.bids && s.canTake c && s.notReached c.stem.tag

/-- The cradle after a commit: one more stem committed and the envelope lo..hi for a FILLING candidate (R47);
bound to the recipe with committed count 1 and envelope L..L for the opening candidate (R48). k = N closes it. -/
def CradleRec.commit (r : CradleRec) (c : Candidate) (n : Nat) : CradleRec :=
  let l := c.stem.length.val
  let r :=
    if c.opening then
      { r with recipe := some c.recipe, committed := 1, envelope := some (widen none l) }
    else { r with committed := r.committed + 1, envelope := some (widen r.envelope l) }
  { r with state := if r.k = n then .closing else .filling }

/-- A commit (R47, R48): the bind report of an opening candidate, the cradle's count, and the pending entry at
its place in tag order. -/
def State.commit (s : State) (c : Candidate) : State :=
  let n := ((s.rct[c.recipe]?).map (·.n)).getD 0
  let s := if c.opening then s.onRecipe c.recipe Recipe.bound else s
  let s := s.setCradle c.cradle ((s.cradle c.cradle).commit c n)
  s.setDrc { s.drc with
    claims := insertByTag (·.stem.tag) { stem := c.stem, cradle := c.cradle, kind := c.kind } s.drc.claims }

/-- The end of a claim frame the station has won (R43, R54): the recheck commits or forfeits at once (R49),
and the round returns to IDLE. -/
def State.wonFrameEnd (s : State) (c : Candidate) : State :=
  let s := s.ownFrameEnd
  let s := if s.recheck c then s.commit c else s.reoffer c.stem
  s.roundIdle.settle

/-- The end of a claim frame of one kind, if the station is the remaining sender of one. -/
def State.claimFrameEnd (s : State) (kind : RoundKind) : State :=
  match s.clu.chosen with
  | none => s
  | some c =>
    if s.clu.round = .won ∧ c.kind = kind ∧ s.drivingClaim then s.wonFrameEnd c else s

/-- CLAIM_SENT: R43, R46 to R49, R140. -/
def execClaimSent (s : State) : Host.Outcome State Fault Refusal :=
  running s fun s => s.claimFrameEnd .claim

/-- RECLAIM_SENT: R54, R46 to R49, R140. -/
def execReclaimSent (s : State) : Host.Outcome State Fault Refusal :=
  running s fun s => s.claimFrameEnd .reclaim

/-! ## The frame itself -/

/-- A bidder of one kind drives the start mark of its frame, 8 bit times after the frame that opened the round
(R41, R53, R144). `since` is when that frame ended. -/
def State.startClaim (s : State) (kind : RoundKind) (since : Option Nat) : State :=
  match s.clu.chosen with
  | none => s
  | some c =>
    if s.clu.round = .bidding ∧ c.kind = kind ∧ s.lbi.tx = none then
      (s.reach ((since.getD s.now) + Config.claimStartTime)).drive (.claim kind c.stem.tag c.bid)
    else s

/-- CLAIM_START: R41, R144. -/
def execClaimStart (s : State) : Host.Outcome State Fault Refusal :=
  running s fun s => s.startClaim .claim s.lbi.claimReserve

/-- RECLAIM_START: R53, R144. -/
def execReclaimStart (s : State) : Host.Outcome State Fault Refusal :=
  running s fun s => s.startClaim .reclaim s.lbi.reclaimReserve

/-- WON: bid bit 0 is driven with no loss and no mismatch, and the station goes on with the check (R43). -/
def execWon (s : State) : Host.Outcome State Fault Refusal :=
  running s fun s =>
    if s.clu.round = .bidding ∧ s.drivingClaim then s.setClu { s.clu with round := .won } else s

/-! ## Frames of other devices -/

/-- CLAIM_RECEIVED: another device's CLAIM or RECLAIM ends; nothing but its end is taken (R140, R179). -/
def execClaimReceived (_kind : RoundKind) (s : State) : Host.Outcome State Fault Refusal :=
  running s fun s => if s.receiving then s.frameEnd else s

/-- A REOFFER at the Claim Unit (R109): it is ignored when its tag is pending here or in the list here, which
leaves the round state IDLE (R51), and opens a RECLAIM round otherwise (R31, R52). -/
def State.takeReoffer (s : State) (st : Stem) : State :=
  if s.hasClaim st.tag || s.hasReoffer st.tag then s.roundIdle else s.openRound .reclaim st

/-- REOFFER_RECEIVED: R109, R51, R52, and the reclaim reserve opens (R143). The sender's number plays no part
(R109). -/
def execReofferReceived (_station : StationNo) (st : Stem) (s : State) :
    Host.Outcome State Fault Refusal :=
  running s fun s => if s.receiving then (s.frameEnd.takeReoffer st).openReclaimReserve else s

end Sys2Proof.Machine
end

