-- ==== Sys2Proof/Machine/Cradles.lean ====
section
/-! DEFINITION. The cradle sensors and the removal timer (chapter 4). -/

namespace Sys2Proof.Machine

/-- CRADLE_PRESENT: an ABSENT cradle becomes EMPTY (R64). -/
def execCradlePresent (c : Cradle) (s : State) : Host.Outcome State Fault Refusal :=
  running (s.told (.sensor c) true) fun s =>
    if (s.cradle c).state = .absent then
      (s.setCradle c { s.cradle c with state := .empty }).settle
    else s

/-- A STALE cradle is lifted out; the last one ends STALE-CRADLE (R63). -/
def State.removeStale (s : State) (c : Cradle) : State :=
  let s := s.setCradle c { s.cradle c with state := .absent }
  if s.someStale then s else s.endCondition .staleCradle

/-- A COMPLETE cradle is taken away: its timer stops and its record is cleared (R72). -/
def State.removeComplete (s : State) (c : Cradle) : State :=
  s.setCradle c { s.cradle c with
    state := .absent, recipe := none, stack := [], envelope := none, removal := none, completion := none }

/-- A premature removal, in the order of its steps (R73), with the test for IDLE as the cradle leaves (R163). -/
def State.removePremature (s : State) (c : Cradle) : State :=
  let s := (s.forfeitCradle c).discardFalling c
  let s := s.setCradle c { s.cradle c with committed := 0 }
  let s := match (s.cradle c).recipe with
    | none => s
    | some i => s.onRecipe i Recipe.unbound
  let s := if (s.cradle c).stack.isEmpty then s else s.joinNotice (.bunch (s.bunchOf c .abandoned))
  let s := s.setCradle c { s.cradle c with
    state := .absent, recipe := none, stack := [], envelope := none }
  s.reviewIdle.raise1 .prematureRemoval (BitVec.ofNat 12 (cradleCode c))

/-- CRADLE_ABSENT: R61, with R63, R64, R72 and R73 by the state the change finds. -/
def execCradleAbsent (c : Cradle) (s : State) : Host.Outcome State Fault Refusal :=
  running (s.told (.sensor c) false) fun s =>
    match (s.cradle c).state with
    | .absent => s
    | .stale => (s.removeStale c).settle
    | .empty => (s.setCradle c { s.cradle c with state := .absent }).settle
    | .complete => (s.removeComplete c).settle
    | .filling | .closing => (s.removePremature c).settle

/-- REMOVAL_OVERDUE: the removal timer of a COMPLETE cradle reaches the removal limit, raises REMOVAL-OVERDUE
and counts on from 0 (R71). -/
def execRemovalOverdue (c : Cradle) (s : State) : Host.Outcome State Fault Refusal :=
  running s fun s =>
    match (s.cradle c).removal with
    | none => s
    | some t =>
      let due := t + s.profileTime (·.removalLimit) * 10 * Config.removalStep
      let s := s.reach due
      let s := s.setCradle c { s.cradle c with removal := some due }
      s.raise1 .removalOverdue (BitVec.ofNat 12 (cradleCode c))

end Sys2Proof.Machine
end

