-- ==== Sys2Proof/Machine/Drops.lean ====
section
/-! DEFINITION. The Drop Controller's commands (chapter 5): beams, drop windows, the gate pulse. -/

namespace Sys2Proof.Machine

/-- The oldest OPEN entry for a cradle (R89). -/
def State.oldestOpen (s : State) (c : Cradle) : Option Falling :=
  s.drc.falling.find? fun f => f.claim.cradle == c && f.window == .opened

/-- A clear-to-blocked transition judged against the falling list (R89, R90): the oldest OPEN entry of the
beam's cradle has LANDED, or the break is STRAY. -/
def State.judgeBreak (s : State) (c : Cradle) : State :=
  match s.oldestOpen c with
  | none => s.raise1 .stray (BitVec.ofNat 12 (cradleCode c))
  | some f =>
    let s := s.setDrc { s.drc with falling := s.drc.falling.erase f }
    let s := s.land f.claim true
    s.setDrc { s.drc with missRun := 0 }

/-- BEAM_BLOCKED: R88 to R90; a beam already blocked makes no transition. -/
def execBeamBlocked (c : Cradle) (s : State) : Host.Outcome State Fault Refusal :=
  running (s.told (.beam c) true) fun s =>
    if (s.beam c).blocked then s
    else
      ((s.setBeam c { s.beam c with blocked := true, timer := some s.now }).judgeBreak c).settle

/-- BEAM_CLEAR: the timer stops and GATE-STUCK raised is no (R88); a beam already clear makes no change. -/
def execBeamClear (c : Cradle) (s : State) : Host.Outcome State Fault Refusal :=
  running (s.told (.beam c) false) fun s => if (s.beam c).blocked then s.setBeam c Beam.clear else s

/-- Open the window of the first WAITING entry of a falling list. -/
def openFirst : List Falling → List Falling
  | [] => []
  | f :: fs => if f.window = .waiting then { f with window := .opened } :: fs else f :: openFirst fs

/-- WINDOW_OPEN: tmin after its fire the oldest WAITING entry becomes OPEN (R87). -/
def execWindowOpen (s : State) : Host.Outcome State Fault Refusal :=
  running s fun s =>
    match s.drc.falling.find? (·.window == .waiting) with
    | none => s
    | some f =>
      let s := s.reach (f.fireTime + s.profileTime (·.tmin) * Config.perMs)
      s.setDrc { s.drc with falling := openFirst s.drc.falling }

/-- The miss run after a MISS for a cradle (R93): it stops at 255, and reaching 3 raises MISS-RUN. -/
def State.countMiss (s : State) (c : Cradle) : State :=
  let n := min 255 (s.drc.missRun + 1)
  let s := s.setDrc { s.drc with missRun := n }
  if n = 3 then s.raise2 .missRun (BitVec.ofNat 12 (cradleCode c)) else s

/-- A falling entry resolves MISS (R92): it leaves the list, its stem is un-committed, with the test for IDLE at
that moment (R163), MISS is raised, and the miss run counts it. -/
def State.missed (s : State) (f : Falling) (rest : List Falling) : State :=
  let s := ((s.setDrc { s.drc with falling := rest }).uncommit f.claim.cradle 1).reviewIdle
  ((s.raise1 .miss f.claim.stem.tag).countMiss f.claim.cradle).settle

/-- MISS: tmax after its fire the oldest entry resolves MISS (R87, R92, R93). Its window has opened before
that, so an entry still WAITING does not miss (log 5). -/
def execMiss (s : State) : Host.Outcome State Fault Refusal :=
  running s fun s =>
    match s.drc.falling with
    | [] => s
    | f :: rest =>
      if f.window = .opened then
        (s.reach (f.fireTime + s.profileTime (·.tmax) * Config.perMs)).missed f rest
      else s

/-- GATE_PULSE_END: 15 ms after the last fire the gate output goes off (R85). -/
def execGatePulseEnd (s : State) : Host.Outcome State Fault Refusal :=
  running s fun s =>
    match s.drc.gate with
    | none => s
    | some t => (s.reach (t + Config.gatePulseTime)).setDrc { s.drc with gate := none }

/-- GATE_STUCK: a beam blocked for 2000 ms stops its timer and raises GATE-STUCK once for its spell (R94). -/
def execGateStuck (c : Cradle) (s : State) : Host.Outcome State Fault Refusal :=
  running s fun s =>
    match (s.beam c).timer with
    | none => s
    | some t =>
      if (s.beam c).blocked ∧ (s.beam c).stuckRaised = false then
        let s := s.reach (t + Config.stuckTime)
        let s := s.setBeam c { s.beam c with timer := none, stuckRaised := true }
        s.raise2 .gateStuck (BitVec.ofNat 12 (cradleCode c))
      else s

end Sys2Proof.Machine
end

