-- ==== Sys2Proof/Machine/Panel.lean ====
section
/-! DEFINITION. The station panel (sections 4.7, 7.4 and 9.4): the eight requests and the REFUSE pulse. A button
held down from before the end of a reset makes none (R182, `request`). -/

namespace Sys2Proof.Machine

/-- The test of PULL (R75). -/
def CradleRec.mayPull (r : CradleRec) : Bool := r.building && !r.stack.isEmpty

/-- PULL: the top entry is popped, or the request is refused (R75). -/
def execPull (c : Cradle) (s : State) : Host.Outcome State Fault Refusal :=
  request s (.pull c) fun s =>
    if (s.cradle c).mayPull then
      ((s.setCradle c { s.cradle c with stack := (s.cradle c).stack.tail }).afterLoss c).settle
    else s.refusePulse

/-- The test of FINISH (R76). -/
def State.mayFinish (s : State) (c : Cradle) (key : Bool) : Bool :=
  key && (s.cradle c).building && !(s.cradle c).stack.isEmpty
    && s.drc.falling.all fun f => f.claim.cradle != c

/-- FINISH: the cradle's pending entries are forfeited and it closes SHORT, or the request is refused
(R76). -/
def execFinish (c : Cradle) (key : Bool) (s : State) : Host.Outcome State Fault Refusal :=
  request s (.finish c) fun s =>
    if s.mayFinish c key then
      let s := s.forfeitCradle c
      let s := s.setCradle c { s.cradle c with
        committed := 0, envelope := envelopeOf ((s.cradle c).stack.map (·.length.val)) }
      (s.complete c .short).settle
    else s.refusePulse

/-- The beam a GATE-STUCK record names reads blocked (R127). -/
def State.stuckBeamBlocked (s : State) (r : Record) : Bool :=
  if r.param = 0 then s.drc.beamA.blocked else s.drc.beamB.blocked

/-- A level-2 record the operator may clear with the key (R127). -/
def State.mayClearStop (s : State) (r : Record) : Bool :=
  match r.cause with
  | .duplicate | .profileBad => false
  | .gateStuck => !s.stuckBeamBlocked r
  | _ => true

/-- CLEAR: in ATTN an event record retires (R126), in STOP a level-2 record retires with the key (R127); in
every other case the request is refused. -/
def execClear (key : Bool) (s : State) : Host.Outcome State Fault Refusal :=
  request s .clear fun s =>
    match s.alc.current with
    | none => s.refusePulse
    | some r =>
      if r.cause.isStop then (if key && s.mayClearStop r then s.retire2 else s.refusePulse)
      else if r.cause.isCondition then s.refusePulse
      else s.retire1

/-- CANCEL: every event code leaves the level-1 pending set (R129). -/
def execCancel (s : State) : Host.Outcome State Fault Refusal :=
  request s .cancel fun s => s.setAlc { s.alc with pend1 := s.alc.pend1.filter (·.cause.isCondition) }

/-- DRAIN: ACTIVE goes to DRAINING, and on to IDLE when no cradle is building; refused in any other mode
(R163). -/
def execDrain (s : State) : Host.Outcome State Fault Refusal :=
  request s .drain fun s =>
    if s.mdc.mode = .active then (s.changeMode .draining).settle else s.refusePulse

/-- The test of RESUME (R164). -/
def State.mayResume (s : State) : Bool :=
  s.mdc.mode == .draining || (s.mdc.mode == .idle && someCanBind s.rct)

/-- RESUME: DRAINING, or IDLE with a recipe that can bind, goes to ACTIVE, with the test made on entry;
refused otherwise (R164). -/
def execResume (s : State) : Host.Outcome State Fault Refusal :=
  request s .resume fun s => if s.mayResume then (s.changeMode .active).settle else s.refusePulse

/-- REFUSE_PULSE_END: 200 ms after the last refusal the REFUSE lamp goes dark (R132). -/
def execRefusePulseEnd (s : State) : Host.Outcome State Fault Refusal :=
  running s fun s =>
    match s.alc.refuse with
    | none => s
    | some t => (s.reach (t + Config.refuseTime)).setAlc { s.alc with refuse := none }

end Sys2Proof.Machine
end

