-- ==== Sys2Proof/Machine/Pitch.lean ====
section
/-! DEFINITION. The Pitch Tracker's commands (chapter 1): pulses, announcements and the HOLD line, with the
arrival they hand the Drop Controller (sections 5.3 and 5.4). -/

namespace Sys2Proof.Machine

/-! ## Arrival -/

/-- The head is found passed (R83): it leaves the queue, the stem is un-committed, with the test for IDLE at that
moment (R163), and PASSED-CLAIM is raised. -/
def State.passClaim (s : State) (e : Claim) (rest : List Claim) : State :=
  ((s.setDrc { s.drc with claims := rest }).uncommit e.cradle 1).reviewIdle.raise1 .passedClaim e.stem.tag

/-- The first step of an arrival: heads that have passed the station leave, one after another (R83). -/
def State.clearPassed (s : State) : List Claim → State
  | [] => s
  | e :: rest => if s.hasPassed e.stem.tag then (s.passClaim e rest).clearPassed rest else s

/-- The fire for the head of the queue (R84 to R86): the diverter, the gate pulse unless the gate is locked,
and a falling entry, or a landing unverified with OVERSPEED when the falling list is full. -/
def State.fire (s : State) (e : Claim) (rest : List Claim) : State :=
  let s := s.setDrc { s.drc with
    claims := rest
    diverter := e.cradle
    gate := if s.drc.gateLock then s.drc.gate else some s.now }
  if s.drc.falling.length < Config.fallingMax then
    s.setDrc { s.drc with
      falling := s.drc.falling ++ [{ claim := e, fireTime := s.now, window := .waiting }] }
  else (s.land e false).reviewIdle.raise1 .overspeed e.stem.tag

/-- An arrival at the Drop Controller (R83, R84). -/
def State.arrival (s : State) : State :=
  let s := s.clearPassed s.drc.claims
  match s.drc.claims with
  | [] => s
  | e :: rest => if s.atStation e.stem.tag then s.fire e rest else s

/-! ## Pulses -/

/-- P advances by one, and the drag keeps H within 2047 behind it (R5, R10). -/
def State.advance (s : State) (p : Tag) : State :=
  let p := p + 1
  s.setPtr { s.ptr with
    p := some p
    h := s.ptr.h.map fun h => if (p - h).toNat = 2048 then h + 1 else h }

/-- A forward pulse is counted in a hold episode, and the fourth raises HOLD-OVERRUN (R15). -/
def State.countCoast (s : State) : State :=
  if s.ptr.holdRead then
    let n := min 4095 (s.ptr.coast + 1)
    let s := s.setPtr { s.ptr with coast := n }
    if n = 4 then s.raise1 .holdOverrun 4 else s
  else s

/-- The pulse's announcement is awaited: an earlier one still awaited goes unannounced first (R11), the flag
is set, announce pending begins afresh (R142), and a bidder before its start point gives up (R41). -/
def State.expectAnnounce (s : State) : State :=
  let s := if s.ptr.announceExpected then s.unannouncedPitch else s
  let s := s.setPtr { s.ptr with announceExpected := true }
  (s.setLbi { s.lbi with announcePending := some s.now }).giveUpStart

/-- A forward pulse, its parts in the order R5 names them (log 9). -/
def State.forwardPulse (s : State) : State :=
  let s := match s.ptr.p with
    | none => s
    | some p => (s.advance p).arrival.expire
  s.expectAnnounce.countCoast.settle

/-- FORWARD_PULSE: R5, with R10, R11, R15, R83 to R86, R105 and R142. -/
def execForwardPulse (s : State) : Host.Outcome State Fault Refusal := running s State.forwardPulse

/-- REVERSE_PULSE: P goes back by one; H and everything else stay (R6). -/
def execReversePulse (s : State) : Host.Outcome State Fault Refusal :=
  running s fun s => s.setPtr { s.ptr with p := s.ptr.p.map (· - 1) }

/-! ## Announcements -/

/-- P is brought into line with the announced tag (R7, R8): a synced P that differs raises PITCH-SLIP, with
the old P as parameter, once P holds the tag. -/
def State.resync (s : State) (t : Tag) : State :=
  match s.ptr.p with
  | none => s.setPtr { s.ptr with p := some t }
  | some p => if p = t then s else (s.setPtr { s.ptr with p := some t }).raise1 .pitchSlip p

/-- The announced stem is new: the tracker was unsynced (R7), or its tag is after H (R9). -/
def State.judgedNew (s : State) (t : Tag) : Bool :=
  match s.ptr.p, s.ptr.h with
  | some _, some h => tagBefore h t
  | _, _ => true

/-- A good ANNOUNCE clears the flag and the count, and ends GAUGE-SILENT if it holds (R11, R12). -/
def State.announced (s : State) : State :=
  let silent := s.ptr.gaugeSilent
  let s := s.setPtr { s.ptr with announceExpected := false, unannounced := 0, gaugeSilent := false }
  if silent then s.endCondition .gaugeSilent else s

/-- A good ANNOUNCE at the tracker (R7 to R9, R11), and its judgement handed to the Claim Unit: a new stem
opens a CLAIM round (R31). -/
def State.trackAnnounce (s : State) (st : Stem) : State :=
  let isNew := s.judgedNew st.tag
  let s := s.resync st.tag
  let s := if isNew then s.setPtr { s.ptr with h := some st.tag } else s
  let s := s.announced
  if isNew then s.openRound .claim st else s

/-- The end of a good ANNOUNCE frame: the tracker takes it first, then announce pending ends and the claim
reserve opens (R140). -/
def State.announce (s : State) (st : Stem) : State :=
  ((s.frameEnd).trackAnnounce st).endAnnouncePending.openClaimReserve

/-- ANNOUNCE: R7 to R9, R31, R32, R140; nothing when no frame is being received (log 5). -/
def execAnnounce (st : Stem) (s : State) : Host.Outcome State Fault Refusal :=
  running s fun s => if s.receiving then s.announce st else s

/-- ANNOUNCE_PENDING_END: 2 ms after announce pending began it ends, and a pitch whose announcement is still
awaited goes unannounced (R142, R11). -/
def execAnnouncePendingEnd (s : State) : Host.Outcome State Fault Refusal :=
  running s fun s =>
    match s.lbi.announcePending with
    | none => s
    | some t => (s.reach (t + Config.announcePendingTime)).endAnnouncePending

/-- HOLD_LEVEL_CHANGE: the other parties come to mark HOLD or to leave it open, and the level read follows
(R14, log 4). While RESETN is low the station reads nothing, and the reading at its end is what stands then (R1). -/
def execHoldLevelChange (marked : Bool) (s : State) : Host.Outcome State Fault Refusal :=
  running (s.setPtr { s.ptr with holdOthers := marked }) State.readHold

end Sys2Proof.Machine
end

