-- ==== Sys2Proof/Machine/Queries.lean ====
section
/-! DEFINITION. The query responder (chapter 10): the answer of each topic, read at the QUERY. -/

namespace Sys2Proof.Machine

/-- The MODE answer; its lost field is read when its start mark is driven (R175). -/
def State.modeBody (s : State) : StatusBody :=
  .mode s.mdc.mode s.level s.ptr.p s.ptr.h s.drc.claims.length s.drc.falling.length s.rol.entries.length
    s.lbi.lost

/-- The two parts of a CRADLE answer (R176). -/
def CradleRec.bodies (r : CradleRec) : List StatusBody :=
  [.cradleMain r.state r.recipe r.completion r.stack.length r.committed r.envelope, .cradleTop r.stack.head?]

/-- A RECIPE answer (R177). -/
def Recipe.body (r : Recipe) : StatusBody :=
  .recipe r.low r.high r.n r.exhausted r.fallback r.made r.inProgress

/-- The causes of the level-1 marks, codes 1 to 12 (12.2). -/
def level1Causes : List Cause :=
  [.staleCradle, .blocked, .gaugeSilent, .miss, .stray, .pitchSlip, .passedClaim, .prematureRemoval,
    .removalOverdue, .overspeed, .holdOverrun, .noticeLost]

/-- The causes of the level-2 marks, codes 16 to 20 (12.2). -/
def level2Causes : List Cause := [.missRun, .gateStuck, .busFault, .duplicate, .profileBad]

/-- Presence marks of a pending set (R178). -/
def marks (cs : List Cause) (set : List Record) : List Bool :=
  cs.map fun c => set.any fun r => r.cause == c

/-- The ALERT answer: the main part, then the level-2 codes, then the level-1 codes, each set in code order
(R178). -/
def State.alertBodies (s : State) : List StatusBody :=
  .alertMain s.alc.current (marks level1Causes s.alc.pend1) (marks level2Causes s.alc.pend2)
    :: (s.alc.pend2 ++ s.alc.pend1).map .alertPart

/-- The parts of the answer on a topic (R173). -/
def State.answer (s : State) (topic : Fin 16) : List StatusBody :=
  match topic.val with
  | 0 => [s.modeBody]
  | 1 => (s.cradle .a).bodies
  | 2 => (s.cradle .b).bodies
  | 7 => s.alertBodies
  | n =>
    if 3 ≤ n ∧ n ≤ 6 then
      match s.rct[n - 3]? with
      | some r => [r.body]
      | none => [.refused]
    else [.refused]

/-- Notices joining the queue one after another (R174). -/
def State.joinAll (s : State) : List Notice → State
  | [] => s
  | n :: ns => (s.joinNotice n).joinAll ns

/-- The QUERY at the responder: discarded when the queue is full, answered part by part otherwise (R150,
R173, R174). -/
def State.respond (s : State) (topic : Fin 16) : State :=
  if Config.noticesMax ≤ s.lbi.notices.length then s.discardNotice
  else s.joinAll ((s.answer topic).map (.status topic))

/-- QUERY: handed to the responder when its target is the number this station holds (R140, R173). -/
def execQuery (target : StationNo) (topic : Fin 16) (s : State) : Host.Outcome State Fault Refusal :=
  running s fun s =>
    if s.receiving then
      let s := s.frameEnd
      if s.number = some target then s.respond topic else s
    else s

end Sys2Proof.Machine
end

