-- ==== Sys2Proof/Machine/Reoffer.lean ====
section
/-! DEFINITION. The frames the station starts on its own account (chapters 6, 8 and 10): REOFFER frames and
notices, their start points and their ends. -/

namespace Sys2Proof.Machine

/-- The frame of a notice at the moment it starts: an ALERT takes the current record and the lost flag, a
MODE answer the lost flag (R151, R152, R175). -/
def State.frameOf (s : State) (number : StationNo) : Notice → Frame
  | .bunch b => .bunch number b
  | .quota i made => .quota number i made
  | .alert => .alert number s.alc.current s.lbi.lost
  | .join j => .join number j
  | .conflict => .conflict number
  | .status topic (.mode m l p h claims falling reoffers _) =>
    .status number topic (.mode m l p h claims falling reoffers s.lbi.lost)
  | .status topic body => .status number topic body

/-- The lost field a frame carries, if it is of a kind that carries one (R152). -/
def Frame.lostField : Frame → Option Bool
  | .alert _ _ lost => some lost
  | .status _ _ (.mode _ _ _ _ _ _ _ lost) => some lost
  | _ => none

/-- Start the notice at the head of the queue (R149): a frame with a lost field clears lost during send at
its start mark (R152), and an ALERT loses its resend mark (R151). -/
def State.startNotice (s : State) : State :=
  match s.number, s.lbi.notices with
  | some number, n :: _ =>
    let f := s.frameOf number n
    let s := if f.lostField.isSome then s.setLbi { s.lbi with lostDuring := false } else s
    let s := if n = .alert then s.setLbi { s.lbi with resend := false } else s
    s.drive f
  | _, _ => s

/-- Start the REOFFER of the list's head (R106). -/
def State.startReoffer (s : State) : State :=
  match s.number, s.rol.entries with
  | some number, st :: _ =>
    (s.setRol { s.rol with sending := some st.tag }).drive (.reoffer number st)
  | _, _ => s

/-- REOFFER_SEND: at a start point with an entry in the list, the expiry check, then the REOFFER of the head,
or the head of the notice queue when the check has emptied the list (R106, R141). -/
def execReofferSend (s : State) : Host.Outcome State Fault Refusal :=
  running s fun s =>
    if s.startPoint && !s.rol.entries.isEmpty then
      let s := s.expire
      if s.rol.entries.isEmpty then s.startNotice else s.startReoffer
    else s

/-- NOTICE_SEND: at a start point with no entry in the list after its expiry check, the head of the notice
queue (R141, R149, R106). -/
def execNoticeSend (s : State) : Host.Outcome State Fault Refusal :=
  running s fun s =>
    if s.startPoint && s.expire.rol.entries.isEmpty && !s.lbi.notices.isEmpty then s.expire.startNotice
    else s

/-- REOFFER_SENT: the entry leaves the list, the reclaim reserve opens, the mismatch count is 0 (R107, R143,
R148). -/
def execReofferSent (s : State) : Host.Outcome State Fault Refusal :=
  running s fun s =>
    match s.lbi.tx with
    | some (.reoffer _ _) =>
      let s := s.ownFrameEnd
      let s := s.setRol
        { entries := s.rol.entries.filter fun e => s.rol.sending != some e.tag, sending := none }
      s.openReclaimReserve
    | _ => s

/-- A frame that carried the lost flag set clears it, unless a notice was lost during the send (R152). -/
def State.clearLost (s : State) (f : Frame) : State :=
  if f.lostField = some true ∧ s.lbi.lostDuring = false then s.setLbi { s.lbi with lost := false } else s

/-- The notice of a frame sent leaves the queue; an ALERT marked to be sent again stays at the head without
its mark (R149, R151). -/
def State.noticeLeaves (s : State) : State :=
  if s.lbi.resend ∧ s.lbi.notices.head? = some .alert then s.setLbi { s.lbi with resend := false }
  else s.setLbi { s.lbi with notices := s.lbi.notices.tail }

/-- The successful end of the JOIN starts the join timer (R159). -/
def State.startJoinTimer (s : State) : Frame → State
  | .join _ _ =>
    if s.mdc.joinTimer = .waiting then s.setMdc { s.mdc with joinTimer := .running s.now } else s
  | _ => s

/-- NOTICE_SENT: R149, R151, R152, R148, R159. -/
def execNoticeSent (s : State) : Host.Outcome State Fault Refusal :=
  running s fun s =>
    match s.lbi.tx with
    | none | some (.claim _ _ _) | some (.reoffer _ _) => s
    | some f => ((s.ownFrameEnd.clearLost f).noticeLeaves).startJoinTimer f

end Sys2Proof.Machine
end

