-- ==== Sys2Proof/Machine/Frames.lean ====
section
/-! DEFINITION. Frames as bits (chapters 8 and 12): layouts, the cyclic check, stuffing, what the station
sends for each frame, and what a receiver makes of the bits it reads. A bit is `true` when it is open (1) and
`false` when it is marked (0). The profile image uses the same check (R155). -/

namespace Sys2Proof.Machine

/-- A number as `w` bits, most significant first (R137). -/
def numBits (w n : Nat) : List Bool := (List.range w).reverse.map n.testBit

/-- The number that bits most significant first stand for. -/
def bitsNum (bs : List Bool) : Nat := bs.foldl (fun n b => 2 * n + b.toNat) 0

/-- One bit through the 16-stage register of the check (R138). -/
def checkStep (reg : BitVec 16) (b : Bool) : BitVec 16 :=
  if b != reg.msb then (reg <<< 1) ^^^ 0x1021#16 else reg <<< 1

/-- The check over a list of bits: the register starts at all ones (R138). -/
def check (bs : List Bool) : BitVec 16 := bs.foldl checkStep 0xFFFF#16

/-- The code of a kind (R137). -/
def kindCode : FrameKind → Nat
  | .announce => 0
  | .claim => 1
  | .reclaim => 2
  | .reoffer => 3
  | .conflict => 4
  | .alert => 5
  | .bunch => 6
  | .quota => 7
  | .join => 8
  | .query => 9
  | .status => 10

/-- The kind a code names; 11..15 name none (R137). -/
def kindOfCode : Nat → Option FrameKind
  | 0 => some .announce
  | 1 => some .claim
  | 2 => some .reclaim
  | 3 => some .reoffer
  | 4 => some .conflict
  | 5 => some .alert
  | 6 => some .bunch
  | 7 => some .quota
  | 8 => some .join
  | 9 => some .query
  | 10 => some .status
  | _ => none

/-- The widths of the fields of a kind, in the order they are sent (12.1). -/
def layout : FrameKind → List Nat
  | .announce => [12, 11, 3, 3]
  | .claim => [12, 20]
  | .reclaim => [12, 20]
  | .reoffer => [6, 12, 11, 3, 3]
  | .conflict => [6]
  | .alert => [6, 2, 5, 12, 12, 1]
  | .bunch => [6, 1, 2, 2, 6, 11, 11, 11, 6, 6, 12]
  | .quota => [6, 2, 12]
  | .join => [6, 11, 11, 3, 3]
  | .query => [6, 4]
  | .status => [6, 4, 1, 48]

/-- How many fields the arbitration field takes after the kind (R145). -/
def arbitrationFields : FrameKind → Nat
  | .claim | .reclaim | .query => 2
  | _ => 1

/-- A frame as its kind and the values of its fields in order. -/
structure RawFrame where
  kind : FrameKind
  values : List Nat
  deriving DecidableEq, Repr

/-- Field values as bits, each at its width. -/
def packBits : List Nat → List Nat → List Bool
  | w :: ws, v :: vs => numBits w v ++ packBits ws vs
  | _, _ => []

/-- Bits as field values, each of its width. -/
def unpackBits : List Nat → List Bool → List Nat
  | [], _ => []
  | w :: ws, bs => bitsNum (bs.take w) :: unpackBits ws (bs.drop w)

/-- The values are as many as the kind has fields, and each fits its width. -/
def RawFrame.wellFormed (f : RawFrame) : Bool :=
  f.values.length == (layout f.kind).length
    && ((layout f.kind).zip f.values).all fun wv => wv.2 < 2 ^ wv.1

/-- The kind and field bits: what the check covers (R138). -/
def RawFrame.covered (f : RawFrame) : List Bool :=
  numBits 4 (kindCode f.kind) ++ packBits (layout f.kind) f.values

/-- The kind, field and check bits of a frame, before stuffing (R137). -/
def RawFrame.content (f : RawFrame) : List Bool :=
  f.covered ++ numBits 16 (check f.covered).toNat

/-- The bits of the arbitration field (R145). -/
def RawFrame.arbitration (f : RawFrame) : List Bool :=
  numBits 4 (kindCode f.kind)
    ++ packBits ((layout f.kind).take (arbitrationFields f.kind)) f.values

/-- Put in the stuff bits: after 10 consecutive open bits, with a bit still to come, a marked bit (R137).
`run` is the run of open bits driven so far. -/
def stuff (run : Nat) : List Bool → List Bool
  | [] => []
  | b :: bs =>
    if run = 10 then false :: b :: stuff (if b then 1 else 0) bs
    else b :: stuff (if b then run + 1 else 0) bs

/-- Every bit driven for a frame, from its start mark to its last check bit (R137). -/
def RawFrame.wire (f : RawFrame) : List Bool := false :: stuff 0 f.content

/-- What came of reading some content bits of a frame: the bits, the open run at the last of them and what
is left; or the frame is cut short; or the bits have not come yet. -/
inductive Scan where
  | got (bits : List Bool) (run : Nat) (rest : List Bool)
  | cutShort
  | unfinished
  deriving DecidableEq, Repr

/-- One content bit in front of what a scan reads after it. -/
def Scan.cons (b : Bool) : Scan → Scan
  | .got bits run rest => .got (b :: bits) run rest
  | x => x

/-- Read `n` content bits, dropping stuff bits; a stuff bit that reads open is the eleventh consecutive open
bit and cuts the frame short (R139). -/
def scan (run : Nat) (bs : List Bool) (n : Nat) : Scan :=
  match bs, n with
  | bs, 0 => .got [] run bs
  | [], _ + 1 => .unfinished
  | b :: bs, n + 1 =>
    if run = 10 then (if b then .cutShort else scan 0 bs (n + 1))
    else (scan (if b then run + 1 else 0) bs n).cons b

/-- What a receiver makes of the bits from a start mark on (R139). -/
inductive Received where
  | good (frame : RawFrame)
  | badCheck (kind : FrameKind)
  | cutShort (kind : FrameKind)
  | unknownKind (code : Nat)
  | unfinished
  deriving DecidableEq, Repr

/-- The receiver over the bits that follow a start mark (R139): the kind, then as many field and check bits
as the kind has, then the check (R138). -/
def receive (bs : List Bool) : Received :=
  match scan 0 bs 4 with
  | .got kindBits run rest =>
    match kindOfCode (bitsNum kindBits) with
    | none => .unknownKind (bitsNum kindBits)
    | some kind =>
      match scan run rest ((layout kind).sum + 16) with
      | .got body _ _ =>
        let fields := body.take (layout kind).sum
        if bitsNum (body.drop (layout kind).sum) = (check (kindBits ++ fields)).toNat then
          .good { kind := kind, values := unpackBits (layout kind) fields }
        else .badCheck kind
      | .cutShort => .cutShort kind
      | .unfinished => .unfinished
  | _ => .unfinished

/-! ## The encodings of 12.1 and 12.2 -/

/-- Flags: HEAD, BENT, DOUBLE, 1 for set (12.1). -/
def flagCode (st : Stem) : Nat := 4 * st.head.toNat + 2 * st.bent.toNat + st.double.toNat

/-- tag, length, grade, flags, as ANNOUNCE and REOFFER carry them (12.1). -/
def stemValues (st : Stem) : List Nat := [st.tag.toNat, st.length.val, st.grade.val, flagCode st]

/-- The mode field of a MODE body (12.2). -/
def Mode.code : Mode → Nat
  | .start => 0
  | .joining => 1
  | .active => 2
  | .draining => 3
  | .idle => 4
  | .stopped => 5

/-- The level field (12.1). -/
def Level.code : Level → Nat
  | .none => 0
  | .attn => 1
  | .stop => 2

/-- The state field of a CRADLE body (12.2). -/
def CradleState.code : CradleState → Nat
  | .absent => 0
  | .stale => 1
  | .empty => 2
  | .filling => 3
  | .closing => 4
  | .complete => 5

/-- The completion field of a BUNCH (12.1). -/
def BunchEnd.code : BunchEnd → Nat
  | .full => 0
  | .short => 1
  | .abandoned => 2

/-- The completion field of a CRADLE body; 3 stands for none (12.1). -/
def completionCode : Option Completion → Nat
  | some .full => 0
  | some .short => 1
  | none => 3

/-- The kind field of a CRADLE body (12.2). -/
def roundKindCode : RoundKind → Nat
  | .claim => 0
  | .reclaim => 1

/-- Cause, parameter and stamp of a record, zeros for none (R133, R178). -/
def recordValues : Option Record → List Nat
  | none => [0, 0, 0]
  | some r => [r.cause.code, r.param.toNat, r.stamp.toNat]

/-- The level field that goes with a current record (R133). -/
def recordLevel : Option Record → Level
  | none => .none
  | some r => if r.cause.isStop then .stop else .attn

/-- Marks as one number, the first mark the most significant (12.2). -/
def marksNum (ms : List Bool) : Nat := bitsNum ms

/-- The widths and values of a STATUS body, part mark first (12.2). -/
def StatusBody.fields : StatusBody → List (Nat × Nat)
  | .refused => []
  | .mode m l p h claims falling reoffers lost =>
    [(1, 0), (3, m.code), (2, l.code), (1, p.isSome.toNat), (12, (p.getD 0).toNat), (12, (h.getD 0).toNat),
      (6, claims), (3, falling), (6, reoffers), (1, lost.toNat)]
  | .cradleMain st r comp landed committed e =>
    [(1, 0), (3, st.code), (2, r.getD 0), (2, completionCode comp), (6, landed), (6, committed),
      (11, (e.map (·.least)).getD 0), (11, (e.map (·.greatest)).getD 0)]
  | .cradleTop none => [(1, 1), (12, 0), (11, 0), (3, 0), (1, 0), (1, 0)]
  | .cradleTop (some t) =>
    [(1, 1), (12, t.tag.toNat), (11, t.length.val), (3, t.grade.val), (1, roundKindCode t.kind), (1, t.verified.toNat)]
  | .recipe low high n ex fb made inp =>
    [(1, 0), (11, low), (12, high), (6, n), (1, ex.toNat), (1, fb.toNat), (12, made), (2, inp)]
  | .alertMain current m1 m2 =>
    [(1, 0)] ++ [5, 12, 12].zip (recordValues current) ++ [(12, marksNum m1), (5, marksNum m2)]
  | .alertPart r => [(1, 1)] ++ [5, 12, 12].zip (recordValues (some r))

/-- The body filled from its most significant bit, every bit after the last field 0 (R179). -/
def StatusBody.number (b : StatusBody) : Nat :=
  bitsNum ((packBits (b.fields.map (·.1)) (b.fields.map (·.2)) ++ List.replicate 48 false).take 48)

/-- The result field: 0 ok, 1 refused (12.1). -/
def StatusBody.result : StatusBody → Nat
  | .refused => 1
  | _ => 0

/-- A frame of the station as its kind and field values (R179, 12.1). -/
def Frame.raw : Frame → RawFrame
  | .claim .claim tag bid => { kind := .claim, values := [tag.toNat, bid] }
  | .claim .reclaim tag bid => { kind := .reclaim, values := [tag.toNat, bid] }
  | .reoffer station st => { kind := .reoffer, values := station.val :: stemValues st }
  | .conflict station => { kind := .conflict, values := [station.val] }
  | .alert station current lost =>
    { kind := .alert
      values := [station.val, (recordLevel current).code] ++ recordValues current ++ [lost.toNat] }
  | .bunch station b =>
    { kind := .bunch
      values := [station.val, cradleCode b.cradle, b.recipe, b.completion.code, b.count, b.least, b.greatest,
        b.mean, b.reoffered, b.unverified, b.made] }
  | .quota station recipe made => { kind := .quota, values := [station.val, recipe, made] }
  | .join station j =>
    { kind := .join
      values := [station.val, j.distance, j.span, 4 * j.fallback.toNat + (j.recipeCount - 1),
        4 * j.holdWhenBlocked.toNat + 2 * j.holdOnStop.toNat + j.reoffer.toNat] }
  | .status station topic body =>
    { kind := .status, values := [station.val, topic.val, body.result, body.number] }

/-- An ANNOUNCE of the gauge head (12.1). -/
def announceFrame (st : Stem) : RawFrame := { kind := .announce, values := stemValues st }

/-- A QUERY of the line supervisor (12.1). -/
def queryFrame (target : StationNo) (topic : Fin 16) : RawFrame :=
  { kind := .query, values := [target.val, topic.val] }

/-- A stem from its four field values (R179). -/
def stemOfValues (tag length grade flags : Nat) : Stem :=
  { tag := BitVec.ofNat 12 tag, length := Fin.ofNat 2048 length, grade := Fin.ofNat 8 grade,
    head := flags.testBit 2, bent := flags.testBit 1, double := flags.testBit 0 }

/-- The command that the end of a frame of another device is, by what the receiver made of it (R140, R179).
A frame that has not ended is none. -/
def Received.command : Received → Option Instr
  | .good { kind := .announce, values := [t, l, g, f] } => some (.announce (stemOfValues t l g f))
  | .good { kind := .claim, values := _ } => some (.claimReceived .claim)
  | .good { kind := .reclaim, values := _ } => some (.claimReceived .reclaim)
  | .good { kind := .reoffer, values := [n, t, l, g, f] } =>
    some (.reofferReceived (Fin.ofNat 64 n) (stemOfValues t l g f))
  | .good { kind := .conflict, values := [n] } => some (.conflictReceived (Fin.ofNat 64 n))
  | .good { kind := .join, values := n :: _ } => some (.joinReceived (Fin.ofNat 64 n))
  | .good { kind := .query, values := [n, topic] } => some (.query (Fin.ofNat 64 n) (Fin.ofNat 16 topic))
  | .good f => some (.noticeReceived f.kind)
  | .badCheck kind => some (.badCheckFrame kind)
  | .cutShort kind => some (.frameCutShort kind)
  | .unknownKind code => some (.unknownKindFrame (BitVec.ofNat 4 code))
  | .unfinished => none

end Sys2Proof.Machine
end

