-- ==== Sys2Proof/Machine/Profile.lean ====
section
/-! DEFINITION. The profile image (R155 to R158, R180, R181, section 12.4): its check, its fields, the faults
in their order, and the profile and recipes an accepted image gives. -/

namespace Sys2Proof

/-- The first `n` bytes, if each is acknowledged (R155). -/
def ackedBytes : Nat → List (Option Byte) → Option (List Byte)
  | 0, _ => some []
  | n + 1, some b :: bs => (ackedBytes n bs).map (b :: ·)
  | _ + 1, _ => none

/-- The one-pass read of the profile memory (R155, R182): device 1010011 is addressed and its 64 bytes are read
from byte 0 on; an address or a byte that is not acknowledged fails the read. -/
def SerialMemory.read (m : SerialMemory) : ProfileRead :=
  if m.address = Config.profileAddress then
    match ackedBytes Config.imageBytes m.bytes with
    | some img => .image img
    | none => .failed
  else .failed

end Sys2Proof

namespace Sys2Proof.Machine

/-- Byte `i` of the image. -/
def byteAt (img : List Byte) (i : Nat) : Nat := (img.getD i 0).toNat

/-- The 16-bit quantity at bytes `i` and `i + 1`, the upper eight bits first (12.4). -/
def wordAt (img : List Byte) (i : Nat) : Nat := 256 * byteAt img i + byteAt img (i + 1)

/-- Bit `b` of byte `i` of the image. -/
def bitAt (img : List Byte) (i b : Nat) : Bool := (byteAt img i).testBit b

/-- The check over the first 62 bytes, the bits of each byte most significant first (R155). -/
def imageCheck (img : List Byte) : BitVec 16 :=
  check ((img.take 62).flatMap fun b => numBits 8 b.toNat)

/-- A band limit as written: coarse or fine, and its 15-bit value (12.4). -/
structure Limit where
  coarse : Bool
  value : Nat
  deriving DecidableEq, Repr

/-- The limit at bytes `i` and `i + 1` (12.4). -/
def limitAt (img : List Byte) (i : Nat) : Limit :=
  { coarse := 32768 ≤ wordAt img i, value := wordAt img i % 32768 }

/-- A low limit translated to millimetres (R19). -/
def Limit.low (l : Limit) : Nat := if l.coarse then l.value * 10 else l.value

/-- A high limit translated to millimetres (R19). -/
def Limit.high (l : Limit) : Nat := if l.coarse then l.value * 10 + 9 else l.value

/-- A fine limit of 0 or above 2047 (R18). -/
def Limit.fineFault (l : Limit) : Bool := !l.coarse && (l.value == 0 || 2047 < l.value)

/-- A coarse limit above 204 (R18). -/
def Limit.coarseFault (l : Limit) : Bool := l.coarse && 204 < l.value

/-- The first byte of recipe record `i` (12.4). -/
def recordOffset (i : Nat) : Nat := 14 + 12 * i

/-- The recipe record `i` as loaded (R17, R19, 12.4). -/
def recipeAt (img : List Byte) (i : Nat) : Recipe :=
  let o := recordOffset i
  { low := (limitAt img o).low
    high := (limitAt img (o + 2)).high
    gradeMask := BitVec.ofNat 8 (byteAt img (o + 4))
    acceptHead := bitAt img (o + 5) 0
    acceptBent := bitAt img (o + 5) 1
    n := byteAt img (o + 6)
    s := byteAt img (o + 7)
    q := wordAt img (o + 8)
    fallback := bitAt img (o + 5) 2
    exhausted := false
    made := 0
    inProgress := 0 }

/-- The recipe count (12.4). -/
def recipeCountAt (img : List Byte) : Nat := byteAt img 6

/-- The parameter of PROFILE-BAD: the reason code times 16 plus the recipe index (R181). -/
def faultParam (reason index : Nat) : Nat := reason * 16 + index

/-- The faults of recipe record `i` with their reasons, in the order they are examined: fine limits before
coarse, low before high, then the band, N, S and Q (R157, R181). -/
def recipeFaults (img : List Byte) (i : Nat) : List (Bool × Nat) :=
  let o := recordOffset i
  let lo := limitAt img o
  let hi := limitAt img (o + 2)
  let r := recipeAt img i
  [(lo.fineFault, faultParam 8 i), (hi.fineFault, faultParam 9 i), (lo.coarseFault, faultParam 8 i),
    (hi.coarseFault, faultParam 9 i), (r.high < r.low, faultParam 10 i),
    (r.n == 0 || 60 < r.n, faultParam 11 i), (251 ≤ r.s && r.s ≤ 254, faultParam 12 i),
    (4095 < r.q, faultParam 13 i)]

/-- Every structural fault with its parameter, in the order of R157, after the check of R155. -/
def imageFaults (img : List Byte) : List (Bool × Nat) :=
  [((imageCheck img).toNat != wordAt img 62, faultParam 2 0),
    (byteAt img 0 != 1, faultParam 3 0),
    (63 < byteAt img 1, faultParam 4 0),
    (wordAt img 2 < 4 || 2000 < wordAt img 2, faultParam 5 0),
    (wordAt img 4 < wordAt img 2 || 2000 < wordAt img 4, faultParam 6 0),
    (recipeCountAt img == 0 || 4 < recipeCountAt img, faultParam 7 0)]
    ++ (List.range (recipeCountAt img)).flatMap (recipeFaults img)

/-- The first fault that stands, by its parameter (R157). -/
def firstFault (faults : List (Bool × Nat)) : Option Nat := (faults.find? (·.1)).map (·.2)

/-- The fault of a profile read: READ for a failed read, else the image's first fault (R155, R157). -/
def readFault : ProfileRead → Option Nat
  | .failed => some (faultParam 1 0)
  | .image img => firstFault (imageFaults img)

/-- A value clamped to a range (R158). -/
def clamp (low high v : Nat) : Nat := if v < low then low else if high < v then high else v

/-- tmin as clamped (R158). -/
def tminOf (img : List Byte) : Nat := clamp 10 100 (byteAt img 8)

/-- The accepted profile of an image, its timing fields clamped (R158, R180). -/
def profileOf (img : List Byte) : Profile :=
  { number := Fin.ofNat 64 (byteAt img 1)
    d := wordAt img 2
    span := wordAt img 4
    tmin := tminOf img
    tmax := clamp (tminOf img + 20) 300 (wordAt img 9)
    removalLimit := clamp 10 600 (wordAt img 11)
    holdWhenBlocked := bitAt img 7 0
    holdOnStop := bitAt img 7 1
    reoffer := bitAt img 7 2 }

/-- The records loaded into the Recipe Table, for the indexes below the recipe count (R17). -/
def recipesOf (img : List Byte) : List Recipe := (List.range (recipeCountAt img)).map (recipeAt img)

/-- The fields of the JOIN notice (R172). -/
def joinFieldsOf (f : Profile) (rs : List Recipe) : JoinFields :=
  { distance := f.d
    span := f.span
    recipeCount := rs.length
    fallback := rs.any (·.fallback)
    holdWhenBlocked := f.holdWhenBlocked
    holdOnStop := f.holdOnStop
    reoffer := f.reoffer }

end Sys2Proof.Machine
end

