-- ==== Sys2Proof/Machine/Start.lean ====
section
/-! DEFINITION. Reset, the profile read, joining the line (chapter 9). -/

namespace Sys2Proof.Machine

/-- The cradle record when reset ends: STALE when its sensor's qualified level is present, ABSENT otherwise (R56,
R62, R182). -/
def cradleAtReset (present : Bool) : CradleRec :=
  if present then { CradleRec.absent with state := .stale } else CradleRec.absent

/-- The beam when reset ends: one read blocked runs its timer from that moment (R81). -/
def beamAtReset (blocked : Bool) : Beam :=
  { blocked := blocked, timer := if blocked then some 0 else none, stuckRaised := false }

/-- Every block at its after-reset values (R1, R17, R30, R56, R81, R101, R115, R136, R154). The readings are the
qualified levels of the sensors and beams (R182) and what the other parties put on HOLD. -/
def atReset (inputs : Inputs) (holdMarked : Bool) : State :=
  let s := State.reset.setInputs inputs
  let s := s.setPtr { s.ptr with holdOthers := holdMarked, holdRead := holdMarked }
  let s := s.setDrc { s.drc with
    beamA := beamAtReset inputs.pins.beamA.level, beamB := beamAtReset inputs.pins.beamB.level }
  s.setCrm { s.crm with
    cradleA := cradleAtReset inputs.pins.sensorA.level
    cradleB := cradleAtReset inputs.pins.sensorB.level }

/-- The parameter of STALE-CRADLE: the cradle, 0 when both are STALE (R62). -/
def State.staleParam (s : State) : BitVec 12 := if s.crm.cradleA.state = .stale then 0 else 1

/-- RESET: every block to its after-reset state, and STALE-CRADLE when a cradle stands in place (R154, R62). The
qualifiers have run through it, from power-on where power was applied (R182), and the time base starts again at 0
(log 1). -/
def execReset (powerOn : List (Pins Bool)) (s : State) : Host.Outcome State Fault Refusal :=
  let s' := (atReset (s.inputs.powerOn powerOn).resetEnds s.ptr.holdOthers).setPending s.pending
  .next (if s'.someStale then s'.raise1 .staleCradle s'.staleParam else s')

/-- RESET_HELD: the bus and HOLD are released at once, a running gate pulse and a running REFUSE pulse end,
the diverter output is driven low, and an open round is dropped with no commit and no forfeit (R30, R85, R101,
R132, R136, R182). The rest takes its after-reset value when the reset ends. -/
def execResetHeld (s : State) : Host.Outcome State Fault Refusal :=
  let s := (s.setInReset true).roundIdle
  let s := s.setLbi { s.lbi with tx := none }
  let s := s.setRol { s.rol with sending := none }
  let s := s.setPtr { s.ptr with holdBlocked := false, holdStop := false }
  let s := s.setDrc { s.drc with gate := none, diverter := .a }
  .next (s.setAlc { s.alc with refuse := none })

/-- A refused profile (R156). -/
def State.refuseProfile (s : State) (param : Nat) : State :=
  (s.setMdc { s.mdc with profileRead := .done }).raise2 .profileBad (BitVec.ofNat 12 param)

/-- The mode becomes JOINING; a station already STOPPED keeps it as its saved mode (R158, log 14). -/
def State.enterJoining (s : State) : State :=
  if s.mdc.mode = .stopped then s.setAlc { s.alc with savedMode := some .joining }
  else s.changeMode .joining

/-- An accepted profile (R158): the parts are handed to the blocks, the JOIN is queued, the join timer waits
for it, and the station goes to JOINING. -/
def State.acceptProfile (s : State) (img : List Byte) : State :=
  let f := profileOf img
  let rs := recipesOf img
  let s := (s.setMdc { s.mdc with profileRead := .done, profile := some f }).setRct rs
  let s := s.joinNotice (.join (joinFieldsOf f rs))
  let s := s.setMdc { s.mdc with joinTimer := .waiting }
  s.enterJoining.settle

/-- PROFILE_READ_END: R155 to R158, R180 to R182. The memory is read once after a reset (R155). -/
def execProfileReadEnd (memory : SerialMemory) (s : State) : Host.Outcome State Fault Refusal :=
  running s fun s =>
    if s.mdc.profileRead = .reading then
      match readFault memory.read, memory.read with
      | some param, _ => s.refuseProfile param
      | none, .image img => s.acceptProfile img
      | none, .failed => s
    else s

/-- JOIN_TIMER_END: after 400 ms JOINING becomes ACTIVE; in STOPPED a saved mode JOINING does (R159, R165). -/
def execJoinTimerEnd (s : State) : Host.Outcome State Fault Refusal :=
  running s fun s =>
    match s.mdc.joinTimer with
    | .running t =>
      let s := (s.reach (t + Config.joinTime)).setMdc { s.mdc with joinTimer := .stopped }
      if s.mdc.mode = .joining then (s.changeMode .active).settle
      else if s.mdc.mode = .stopped ∧ s.alc.savedMode = some .joining then
        s.setAlc { s.alc with savedMode := some .active }
      else s
    | _ => s

/-- The parameter of DUPLICATE: the station's own number (R160). -/
def numberParam (n : StationNo) : BitVec 12 := BitVec.ofNat 12 n.val

/-- JOIN_RECEIVED: the station's own number heard in a JOIN queues a CONFLICT and then raises DUPLICATE
(R160). -/
def execJoinReceived (number : StationNo) (s : State) : Host.Outcome State Fault Refusal :=
  running s fun s =>
    if s.receiving then
      let s := s.frameEnd
      if s.number = some number then
        (s.joinNotice .conflict).raise2 .duplicate (numberParam number)
      else s
    else s

/-- CONFLICT_RECEIVED: the station's own number heard in a CONFLICT raises DUPLICATE (R160). -/
def execConflictReceived (number : StationNo) (s : State) : Host.Outcome State Fault Refusal :=
  running s fun s =>
    if s.receiving then
      let s := s.frameEnd
      if s.number = some number then s.raise2 .duplicate (numberParam number) else s
    else s

end Sys2Proof.Machine
end

