-- ==== Sys2Proof/Machine/Dispatch.lean ====
section
/-! DEFINITION. The command's effect on everything but the queue: one arm for each row of the table. -/

namespace Sys2Proof.Machine

def exec (i : Instr) (s : State) : Host.Outcome State Fault Refusal :=
  match i with
  | .reset powerOn => Sys2Proof.Machine.execReset powerOn s
  | .profileReadEnd memory => Sys2Proof.Machine.execProfileReadEnd memory s
  | .forwardPulse => Sys2Proof.Machine.execForwardPulse s
  | .reversePulse => Sys2Proof.Machine.execReversePulse s
  | .announce stem => Sys2Proof.Machine.execAnnounce stem s
  | .announcePendingEnd => Sys2Proof.Machine.execAnnouncePendingEnd s
  | .holdLevelChange marked => Sys2Proof.Machine.execHoldLevelChange marked s
  | .claimStart => Sys2Proof.Machine.execClaimStart s
  | .reclaimStart => Sys2Proof.Machine.execReclaimStart s
  | .arbitrationLoss => Sys2Proof.Machine.execArbitrationLoss s
  | .transmitMismatch atStart => Sys2Proof.Machine.execTransmitMismatch atStart s
  | .claimSent => Sys2Proof.Machine.execClaimSent s
  | .reclaimSent => Sys2Proof.Machine.execReclaimSent s
  | .claimReceived kind => Sys2Proof.Machine.execClaimReceived kind s
  | .reofferReceived station stem => Sys2Proof.Machine.execReofferReceived station stem s
  | .badCheckFrame kind => Sys2Proof.Machine.execBadCheckFrame kind s
  | .frameCutShort kind => Sys2Proof.Machine.execFrameCutShort kind s
  | .unknownKindFrame code => Sys2Proof.Machine.execUnknownKindFrame code s
  | .busIdle => Sys2Proof.Machine.execBusIdle s
  | .claimReserveEnd => Sys2Proof.Machine.execClaimReserveEnd s
  | .reclaimReserveEnd => Sys2Proof.Machine.execReclaimReserveEnd s
  | .reofferSend => Sys2Proof.Machine.execReofferSend s
  | .reofferSent => Sys2Proof.Machine.execReofferSent s
  | .noticeSend => Sys2Proof.Machine.execNoticeSend s
  | .noticeSent => Sys2Proof.Machine.execNoticeSent s
  | .joinTimerEnd => Sys2Proof.Machine.execJoinTimerEnd s
  | .joinReceived number => Sys2Proof.Machine.execJoinReceived number s
  | .conflictReceived number => Sys2Proof.Machine.execConflictReceived number s
  | .noticeReceived kind => Sys2Proof.Machine.execNoticeReceived kind s
  | .query target topic => Sys2Proof.Machine.execQuery target topic s
  | .cradlePresent cradle => Sys2Proof.Machine.execCradlePresent cradle s
  | .cradleAbsent cradle => Sys2Proof.Machine.execCradleAbsent cradle s
  | .beamBlocked beam => Sys2Proof.Machine.execBeamBlocked beam s
  | .beamClear beam => Sys2Proof.Machine.execBeamClear beam s
  | .windowOpen => Sys2Proof.Machine.execWindowOpen s
  | .miss => Sys2Proof.Machine.execMiss s
  | .gatePulseEnd => Sys2Proof.Machine.execGatePulseEnd s
  | .gateStuck beam => Sys2Proof.Machine.execGateStuck beam s
  | .removalOverdue cradle => Sys2Proof.Machine.execRemovalOverdue cradle s
  | .pull cradle => Sys2Proof.Machine.execPull cradle s
  | .finish cradle key => Sys2Proof.Machine.execFinish cradle key s
  | .clear key => Sys2Proof.Machine.execClear key s
  | .cancel => Sys2Proof.Machine.execCancel s
  | .drain => Sys2Proof.Machine.execDrain s
  | .resume => Sys2Proof.Machine.execResume s
  | .refusePulseEnd => Sys2Proof.Machine.execRefusePulseEnd s
  | .startMark => Sys2Proof.Machine.execStartMark s
  | .won => Sys2Proof.Machine.execWon s
  | .resetHeld => Sys2Proof.Machine.execResetHeld s

end Sys2Proof.Machine
end

