-- ==== Sys2Proof/Machine/Idle.lean ====
section
/-! DEFINITION. What passes with time alone: one bit time in which no command comes. -/

namespace Sys2Proof.Machine

/-- The receiver's open bit of a bit time outside a frame, where a marked bit would have come as a START_MARK
(R139). The eleventh is the command BUS_IDLE. -/
def State.openBit (s : State) : State :=
  if s.lbi.receiver ≠ .inFrame ∧ s.lbi.openRun + 1 < Config.idleRun then
    s.setLbi { s.lbi with openRun := s.lbi.openRun + 1 }
  else s

/-- One bit time with no command (log 7): the qualifiers run, and while RESETN is low nothing else does (R182).
Otherwise their changes and an edge of PITCH become the commands waiting, the time base goes up by one and the
receiver counts an open bit. -/
def State.tick (s : State) : State :=
  let t := s.setInputs s.inputs.tick
  if s.inReset then t
  else ((t.setPending s.inputs.events).setNow (s.now + 1)).openBit

end Sys2Proof.Machine
end

