-- ==== Sys2Proof/Safety.lean ====
section
/-! DEFINITION. What a sound state of the block is, in the terms the statements use: the books of claims,
cradles and recipes, the alert records, the station's side of the line bus, and the ranges. -/

namespace Sys2Proof.Machine

/-! ## The books (chapters 2 to 6) -/

/-- The number of falling entries that target a cradle. -/
def State.fallingCount (s : State) (c : Cradle) : Nat :=
  (s.drc.falling.filter (·.claim.cradle = c)).length

/-- How many of the two cradles are building to recipe `i` (R17, "In-progress"). -/
def State.buildingTo (s : State) (i : Nat) : Nat :=
  ([Cradle.a, Cradle.b].filter fun c => (s.cradle c).building && (s.cradle c).recipe == some i).length

/-- What each cradle state says of the record (R33, R56, R58, R64, R70): `n` is N of the bound recipe. -/
def CradleRec.shape (r : CradleRec) (n : Option Nat) : Bool :=
  match r.state, n with
  | .filling, some n => 1 ≤ r.k && r.k < n && r.removal.isNone && r.completion.isNone
  | .closing, some n => r.k == n && 1 ≤ r.committed && r.removal.isNone && r.completion.isNone
  | .complete, some n =>
    r.committed == 0 && 1 ≤ r.stack.length && r.removal.isSome
      && (r.completion == some .full && r.stack.length == n
        || r.completion == some .short && r.stack.length < n)
  | .absent, none | .stale, none | .empty, none =>
    r.recipe.isNone && r.stack.isEmpty && r.committed == 0 && r.removal.isNone && r.completion.isNone
  | _, _ => false

/-- A landed stem suits the recipe: its length and grade pass the recipe's band and mask (R20, R21). -/
def Recipe.suitsLanded (r : Recipe) (l : Landed) : Bool :=
  1 ≤ l.length.val && r.low ≤ l.length.val && l.length.val ≤ r.high && r.takesGrade l.grade

/-- The books of one cradle: its shape, its committed count against the queue and the falling list (R100), its
envelope against the stems it counts (R59), and every one of those stems against its recipe and spread limit
(R21, R35, R59). -/
abbrev cradleBooks (s : State) (c : Cradle) : Prop :=
  let r := s.cradle c
  r.shape ((s.boundRecipe r).map (·.n)) = true ∧
    r.committed = s.claimCount c + s.fallingCount c ∧
    r.envelope = s.envelopeNow c ∧
    (∀ x ∈ s.boundRecipe r,
      (∀ e ∈ r.envelope, x.fits e = true) ∧
        (∀ l ∈ r.stack, x.suitsLanded l = true) ∧
        (∀ e ∈ s.drc.claims, e.cradle = c → x.stemTest e.stem = true) ∧
        (∀ f ∈ s.drc.falling, f.claim.cradle = c → x.stemTest f.claim.stem = true))

/-- The books of one recipe: its in-progress count against the cradles (R17), and its quota (R22, R24, R26). -/
abbrev recipeBooks (s : State) (x : Recipe) (i : Nat) : Prop :=
  1 ≤ x.n ∧ x.n ≤ 60 ∧ x.inProgress = s.buildingTo i ∧
    (x.q ≠ 0 → x.made + x.inProgress ≤ x.q) ∧
    (x.exhausted = true ↔ x.q ≠ 0 ∧ x.made = x.q)

/-- A stem the station may hold a claim or a re-offer for: length at least 1, DOUBLE clear (R32, R101). -/
abbrev claimableStem (st : Stem) : Prop := 1 ≤ st.length.val ∧ st.double = false

/-- The chosen candidate of a round against the books: room in the queue, its tag not in it (R32, R51, R82),
and a stem its recipe takes (R33, R34). -/
abbrev chosenBooks (s : State) : Prop :=
  ∀ c ∈ s.clu.chosen,
    s.drc.claims.length < Config.claimsMax ∧ s.hasClaim c.stem.tag = false ∧
      ∃ x ∈ s.rct[c.recipe]?, x.stemTest c.stem = true

/-- The books of the station. -/
abbrev Books (s : State) : Prop :=
  cradleBooks s .a ∧ cradleBooks s .b ∧
    (∀ x ∈ s.rct.zipIdx, recipeBooks s x.1 x.2) ∧
    chosenBooks s ∧
    s.drc.claims.length ≤ Config.claimsMax ∧ s.drc.falling.length ≤ Config.fallingMax ∧
    (s.drc.claims.map (·.stem.tag)).Nodup ∧
    (∀ e ∈ s.drc.claims, claimableStem e.stem) ∧
    s.rol.entries.length ≤ Config.reofferMax ∧ (s.rol.entries.map (·.tag)).Nodup ∧
    (∀ e ∈ s.rol.entries, claimableStem e) ∧
    (s.mdc.profileRead = .reading → s.mdc.profile = none) ∧
    (s.mdc.profile = none → s.rct = [])

/-- The stem of a round in WON, which a change of mode forfeits at once (R45). -/
def State.wonStems (s : State) : List Stem :=
  if s.clu.round = .won then (s.clu.chosen.map (·.stem)).toList else []

/-- The Claim Unit with no round open (R30). -/
def ClaimUnit.atRest : ClaimUnit := { round := .idle, chosen := none, gaveUp := false }

/-- The Claim Unit after the end of a frame: a round that lost arbitration is over (R42). -/
def ClaimUnit.afterFrame (u : ClaimUnit) : ClaimUnit :=
  if u.round = .lost ∧ u.gaveUp = false then .atRest else u

/-- The Claim Unit once the bus is idle: a LOST round is over, whichever way it was lost (R41, R42). -/
def ClaimUnit.afterIdle (u : ClaimUnit) : ClaimUnit := if u.round = .lost then .atRest else u

/-- The Line Bus Interface after a frame has ended at the receiver (R139, R143). -/
def LineBus.afterFrame (l : LineBus) : LineBus :=
  { l with receiver := .waitingStart, openRun := 0, claimReserve := none, reclaimReserve := none }

/-- The lengths a cradle counts: its stack and its committed stems (R59). -/
def State.lengths (s : State) (c : Cradle) : List Nat :=
  (s.cradle c).stack.map (·.length.val) ++ s.committedLengths c

/-- The other position. -/
def otherCradle : Cradle → Cradle
  | .a => .b
  | .b => .a

/-- A cradle or a beam as a cause parameter: 0 for A, 1 for B (R116). -/
def cradleParam (c : Cradle) : BitVec 12 := BitVec.ofNat 12 (cradleCode c)

/-- The command that ends a won claim frame of a kind (R43, R54). -/
def sentCommand : RoundKind → Instr
  | .claim => .claimSent
  | .reclaim => .reclaimSent

/-! ## The alert records (chapter 7) -/

/-- The state a condition cause stands for (R117); an event cause stands for none. -/
def State.holds (s : State) : Cause → Bool
  | .staleCradle => s.someStale
  | .blocked => s.crm.blocked
  | .gaugeSilent => s.ptr.gaugeSilent
  | _ => false

/-- The level-1 and level-2 records that stand at the Alert Controller, wherever they stand. -/
def State.standing (s : State) : List Record :=
  s.alc.current.toList ++ s.alc.saved.toList ++ s.alc.pend1 ++ s.alc.pend2

/-- In how many places a cause stands. -/
def State.places (s : State) (c : Cause) : Nat := (s.standing.filter (·.cause = c)).length

/-- A pending set: codes strictly rising, each at most once (R115). -/
abbrev inCodeOrder (set : List Record) : Prop := (set.map (·.cause.code)).Pairwise (· < ·)

/-- The alert records agree with each other, with the mode (R121 to R124) and with the conditions (R117). -/
abbrev AlertsAgree (s : State) : Prop :=
  inCodeOrder s.alc.pend1 ∧ inCodeOrder s.alc.pend2 ∧
    (∀ r ∈ s.alc.pend1, r.cause.isStop = false) ∧ (∀ r ∈ s.alc.pend2, r.cause.isStop = true) ∧
    (∀ r ∈ s.alc.saved, r.cause.isStop = false) ∧
    (s.alc.current = none → s.alc.pend1 = []) ∧
    (s.mdc.mode = .stopped ↔ s.level = .stop) ∧
    (s.alc.savedMode.isSome = true ↔ s.level = .stop) ∧ s.alc.savedMode ≠ some .stopped ∧
    (s.level ≠ .stop → s.alc.saved = none ∧ s.alc.pend2 = []) ∧
    (s.drc.gateLock = true ↔ s.level = .stop) ∧ (s.level = .stop → s.drc.claims = []) ∧
    (s.ptr.holdStop = true → s.level = .stop) ∧
    s.places .staleCradle = (s.holds .staleCradle).toNat ∧
    s.places .blocked = (s.holds .blocked).toNat ∧
    s.places .gaugeSilent = (s.holds .gaugeSilent).toNat

/-! ## The station's side of the line bus (chapters 3, 6 and 8) -/

/-- A frame from the head of the notice queue (R136). -/
def Frame.isNotice : Frame → Bool
  | .claim _ _ _ | .reoffer _ _ => false
  | _ => true

/-- The frame carries a notice (R136, R149): its kind and its field values, but for those an ALERT and a MODE
answer read only as the frame starts (R151, R152). -/
def Frame.carries : Frame → Notice → Bool
  | .conflict _, .conflict => true
  | .alert _ _ _, .alert => true
  | .bunch _ b, .bunch b' => b == b'
  | .quota _ i made, .quota i' made' => i == i' && made == made'
  | .join _ j, .join j' => j == j'
  | .status _ topic (.mode m l p h c f r _), .status topic' (.mode m' l' p' h' c' f' r' _) =>
    topic == topic' && m == m' && l == l' && p == p' && h == h' && c == c' && f == f' && r == r'
  | .status _ topic body, .status topic' body' => topic == topic' && body == body'
  | _, _ => false

/-- What the frame being driven says of the rest of the station (R42 to R44, R107): a claim frame is that of the
open round, a REOFFER that of the entry being sent, and a notice frame that of the head of the notice queue (R136,
R149). -/
def State.txAgrees (s : State) : Bool :=
  match s.lbi.tx with
  | none => s.clu.round != .won && s.rol.sending.isNone
  | some (.claim kind tag bid) =>
    (s.clu.round == .bidding || s.clu.round == .won) && s.rol.sending.isNone
      && s.clu.chosen.any fun c => c.kind == kind && c.stem.tag == tag && c.bid == bid
  | some (.reoffer station st) =>
    s.clu.round != .won && s.number == some station && s.rol.sending == some st.tag
      && s.rol.entries.contains st
  | some f => s.clu.round != .won && s.rol.sending.isNone && s.lbi.notices.head?.any f.carries

/-- The bus interface, the round and the notice queue agree (R30, R136, R141, R149, R151). -/
abbrev BusAgrees (s : State) : Prop :=
  s.txAgrees = true ∧
    (s.lbi.tx.isSome = true → s.lbi.receiver = .inFrame ∧ s.mdc.profile.isSome = true) ∧
    (s.clu.round = .idle ↔ s.clu.chosen = none) ∧
    (s.clu.chosen.isSome = true → s.mdc.profile.isSome = true) ∧
    (∀ c ∈ s.clu.chosen, ∀ n ∈ s.number, c.bid % 64 = n.val) ∧
    (s.clu.round = .bidding ∨ s.clu.round = .won → s.mdc.mode.bids = true) ∧
    s.lbi.notices.length ≤ Config.noticesMax ∧ (s.lbi.notices.filter (· = .alert)).length ≤ 1 ∧
    (s.lbi.resend = true → s.lbi.notices.head? = some .alert) ∧
    s.lbi.openRun ≤ Config.idleRun ∧ s.lbi.mismatches ≤ 1

/-! ## The tracker, the conditions worked out, and the counts -/

/-- The tracker's state, the condition BLOCKED and the counts: H is present exactly while P is synced (R1), an
awaited announcement has its pending period (R11, R142), HOLD reads what is put on it (R14), BLOCKED is what R78
says it is, no building mode outlives its last bunch (R162, R163), and the counts and the runs of the qualifiers
keep their ranges (R1, R81, R182). -/
abbrev TrackerAgrees (s : State) : Prop :=
  s.ptr.h.isSome = s.ptr.p.isSome ∧
    (s.ptr.announceExpected = true → s.lbi.announcePending.isSome = true) ∧
    (s.inReset = false → s.ptr.holdRead = (s.holdDrive || s.ptr.holdOthers)) ∧
    (s.inReset = false → s.ptr.holdBlocked = (s.crm.blocked && s.policy (·.holdWhenBlocked))) ∧
    s.crm.blocked = s.blockedNow ∧ s.idleNow = false ∧
    (s.mdc.profileRead = .reading →
      s.mdc.mode = .start ∨ s.mdc.mode = .stopped ∧ s.alc.savedMode = some .start) ∧
    s.ptr.unannounced ≤ 255 ∧ s.ptr.coast ≤ 4095 ∧ s.drc.missRun ≤ 255 ∧
    (∀ p ∈ Pin.all, (s.qualifier p).run < p.qualifyTime ∧
      ((s.qualifier p).held = true → (s.qualifier p).level = true))

/-- A sound state: the premise of the statements about states that a run can reach. -/
abbrev Sound (s : State) : Prop := Books s ∧ AlertsAgree s ∧ BusAgrees s ∧ TrackerAgrees s

end Sys2Proof.Machine
end

