-- ==== Sys2Proof/Certificates/Slice0/Obligations.lean ====
section
/-! DEFINITION. The statements for the provers. Each docstring names the rules a statement rests on; what is
the model's own choice says so and names its log entry. -/

open Sys2Proof Sys2Proof.Machine

/-! ## The step, the queue, and being held in reset -/

/-- A step takes the command at the front of the queue and runs it on the state with the queue's rest. On an
empty queue one bit time passes (the model's own, log 7): every qualifier runs, in reset too, and a level that has
held for its time, 0.5 ms for a beam, 50 ms for a cradle sensor, 20 ms for a button and KEY, becomes the qualified
one (R182); with RESETN high the changes so taken, and a leading edge of PITCH with the direction of DIR (R4), are
the commands waiting, in the order of log 15, the time base goes up by one, the receiver counts an open bit
(R139), and nothing else changes. No command but RESET and the changes of a beam or a cradle sensor writes the
input pins (log 15). -/
def Obligations.StepRunsFrontCommand : Prop :=
  (∀ (c : Instr) (rest : List Instr) (s : State),
    s.pending = c :: rest → step s = exec c (s.setPending rest)) ∧
  (∀ (s : State), s.pending = [] → ∃ t, step s = .next t ∧
    (∀ p, t.qualifier p =
      let q := s.qualifier p
      let time := match p with
        | .beam _ => 125
        | .sensor _ => 12500
        | _ => 5000
      if q.pin = q.level then { q with run := 0 }
      else if q.run + 1 < time then { q with run := q.run + 1 }
      else ⟨q.pin, q.pin, 0, false⟩) ∧
    t.inputs.pitch = s.inputs.pitch ∧ t.inputs.dir = s.inputs.dir ∧ t.inputs.pitchSeen = s.inputs.pitch ∧
    (s.inReset = true → t = s.setInputs t.inputs) ∧
    (s.inReset = false →
      t = (((s.setInputs t.inputs).setPending t.pending).setNow (s.now + 1)).setLbi { s.lbi with
        openRun := if s.lbi.receiver ≠ .inFrame ∧ s.lbi.openRun < 10 then s.lbi.openRun + 1
          else s.lbi.openRun } ∧
      t.pending =
        (if s.inputs.pitch = true ∧ s.inputs.pitchSeen = false then
          [if s.inputs.dir then .forwardPulse else .reversePulse] else []) ++
        Pin.all.filterMap fun p =>
          if (t.qualifier p).level = (s.qualifier p).level then none
          else match p, (t.qualifier p).level with
            | .beam c, true => some (.beamBlocked c)
            | .beam c, false => some (.beamClear c)
            | .sensor c, true => some (.cradlePresent c)
            | .sensor c, false => some (.cradleAbsent c)
            | .pull c, true => some (.pull c)
            | .finish c, true => some (.finish c (t.qualifier .key).level)
            | .clear, true => some (.clear (t.qualifier .key).level)
            | .cancel, true => some .cancel
            | .drain, true => some .drain
            | .resume, true => some .resume
            | _, _ => none)) ∧
  ∀ (c : Instr) (s t : State), exec c s = .next t → (∀ powerOn, c ≠ .reset powerOn) →
    t.inputs = (match c with
      | .beamBlocked x => (s.told (.beam x) true).inputs
      | .beamClear x => (s.told (.beam x) false).inputs
      | .cradlePresent x => (s.told (.sensor x) true).inputs
      | .cradleAbsent x => (s.told (.sensor x) false).inputs
      | _ => s.inputs)

/-- No command reads or writes the queue of waiting commands: run with another queue, it does the same and
leaves that queue. The queue is the model's own (log 18). -/
def Obligations.CommandIgnoresQueue : Prop :=
  ∀ (c : Instr) (s : State) (l : List Instr),
    exec c (s.setPending l) = match exec c s with
      | .next t => .next (t.setPending l)
      | .fault f => .fault f
      | .refused r => .refused r

/-- The model's own choice (log 6): a command is refused, as ill-formed, exactly when an operand is one that no
bus can carry; every other command answers a next state. -/
def Obligations.CommandRefusedExactlyWhenIllFormed : Prop :=
  ∀ (c : Instr) (s : State),
    (c.wellFormed = true → ∃ t, exec c s = .next t) ∧
    (c.wellFormed = false → ∃ m, exec c s = .refused (.illFormed m))

/-! ## The invariants -/

/-- The state after reset is sound, and so is the state after every RESET command (R154), given, where power was on
all along, that the run of each qualifier is below its qualifying time, as it is in every sound state
(EveryStepKeepsTheTracker): RESET keeps the runs (R182). -/
def Obligations.SoundAfterReset : Prop :=
  Sound State.reset ∧
    ∀ (powerOn : List (Pins Bool)) (s t : State),
      (powerOn = [] → ∀ p, (s.qualifier p).run < p.qualifyTime) →
      exec (.reset powerOn) s = .next t → Sound t

/-- Every step from a sound state keeps the books of claims, cradles, recipes and the Re-offer List: each
cradle's committed count is its pending and falling entries (R58, R100), its envelope spans exactly the stems it
counts (R59), all of them within its recipe's band, mask and spread limit (R21, R35), each cradle state has the
counts R56 to R70 give it, each recipe's counts keep within its quota (R17, R22, R24, R26), and the capacities
and the "no tag twice" of R82 and R101 hold. -/
def Obligations.EveryStepKeepsTheBooks : Prop :=
  ∀ (s t : State), Sound s → step s = .next t → Books t

/-- Every step from a sound state keeps the alert records: sets in code order, the level STOP exactly while the
mode is STOPPED with a saved mode and the gate locked, no claim held in STOP, and each condition cause standing
in exactly one place while its condition holds and in none otherwise (R115 to R124, R84, R98). -/
def Obligations.EveryStepKeepsTheAlertRecords : Prop :=
  ∀ (s t : State), Sound s → step s = .next t → AlertsAgree t

/-- Every step from a sound state keeps the bus interface, the claim round and the notice queue in agreement: what
is driven belongs to the round, to the list or to the head of the queue, nothing is driven without an accepted
profile, a round has a candidate exactly while it is open, only a bidding mode bids, the bid names the station, and
at most eight notices wait, one ALERT among them at most (R30, R39, R41, R45, R107, R136, R141, R149). -/
def Obligations.EveryStepKeepsTheBusInStep : Prop :=
  ∀ (s t : State), Sound s → step s = .next t → BusAgrees t

/-- Every step from a sound state keeps the tracker and the conditions: H present exactly while P is synced
(R1), HOLD read as it is driven (R14), BLOCKED exactly as R78 says, the hold reason BLOCKED as R13 says, no
building mode past its last bunch (R162, R163), the counts in their ranges, and every qualifier short of its time
(R182). -/
def Obligations.EveryStepKeepsTheTracker : Prop :=
  ∀ (s t : State), Sound s → step s = .next t → TrackerAgrees t

/-- What the books say in the words of the spec: in a sound state the pending entries and the falling entries
together are as many as the two committed counts (R100), and any two stems a bound cradle counts, landed or
committed, differ in length by no more than the spread limit of its recipe (R59). -/
def Obligations.SoundBooksKeepCountAndSpread : Prop :=
  ∀ (s : State) (c : Cradle) (x : Recipe) (l m : Nat), Sound s →
    s.drc.claims.length + s.drc.falling.length = s.crm.cradleA.committed + s.crm.cradleB.committed ∧
    (s.boundRecipe (s.cradle c) = some x → x.s ≠ 255 → l ∈ s.lengths c → m ∈ s.lengths c → l - m ≤ x.s)

/-! ## Frames as bits -/

/-- A receiver reads back exactly the frame a sender drives, with its kind, every field at its width and a good
check, the stuff bits dropped; and no run of open bits inside the frame reaches 11 (R137 to R139). -/
def Obligations.ReceiverReadsWhatIsSent : Prop :=
  ∀ (f : RawFrame), f.wellFormed = true →
    receive f.wire.tail = .good f ∧ ¬ List.replicate 11 true <:+: f.wire

/-- Frames of other devices arrive as their commands, with every field the station takes as it stands, and an
ALERT, BUNCH, QUOTA or STATUS of whatever fields arrives as what it is, a notice (R140, R179, 12.1). -/
def Obligations.FramesArriveAsTheirCommands : Prop :=
  ∀ (n : StationNo) (st : Stem) (topic : Fin 16) (kind : RoundKind) (bid : Nat) (j : JoinFields)
    (f : RawFrame),
    (f.wellFormed = true → f.kind = .alert ∨ f.kind = .bunch ∨ f.kind = .quota ∨ f.kind = .status →
      (receive f.wire.tail).command = some (.noticeReceived f.kind)) ∧
    (receive (announceFrame st).wire.tail).command = some (.announce st) ∧
    (receive (Frame.reoffer n st).raw.wire.tail).command = some (.reofferReceived n st) ∧
    (receive (queryFrame n topic).wire.tail).command = some (.query n topic) ∧
    (receive (Frame.conflict n).raw.wire.tail).command = some (.conflictReceived n) ∧
    (bid < 2 ^ 20 →
      (receive (Frame.claim kind st.tag bid).raw.wire.tail).command = some (.claimReceived kind)) ∧
    (j.distance < 2048 → j.span < 2048 → 1 ≤ j.recipeCount → j.recipeCount ≤ 4 →
      (receive (Frame.join n j).raw.wire.tail).command = some (.joinReceived n))

/-! ## Tags, pulses, announcements and HOLD -/

/-- The tag order: a before b exactly when (b − a) mod 4096 lies in 1..2047; equal tags and tags 2048 apart are
neither before nor after one another (R2). -/
def Obligations.TagOrderIsHalfTheRange : Prop :=
  ∀ (a b : Tag),
    let d := (b.toNat + 4096 - a.toNat) % 4096
    (tagBefore a b = true ↔ 1 ≤ d ∧ d ≤ 2047) ∧
    (tagBefore b a = true ↔ 2049 ≤ d) ∧
    (d = 0 ↔ a = b) ∧
    (d = 0 ∨ d = 2048 ↔ tagBefore a b = false ∧ tagBefore b a = false)

/-- FORWARD_PULSE advances a synced P by one and drags H when P comes 2048 after it (R5, R10); it sets the
announce-expected flag and begins announce pending (R5, R142); an announcement still awaited goes unannounced
first (R11), and an eighth one makes GAUGE-SILENT true (R12). Nothing is handed on while P is unsynced; the
Re-offer List drops what has expired at the advanced P (R105), the stem of a won round among them when the pulse
takes the station to IDLE, which forfeits it at once (R45). At the Claim Unit a bidder before its start point gives
up and goes to LOST (R41), and a started, a won or a lost round stays, unless the pulse takes the station to IDLE,
as it does when no cradle is building any more and R162 or R163 asks for it: a started or a won round then stops
driving and is over (R45). -/
def Obligations.ForwardPulseAdvancesTheTag : Prop :=
  ∀ (s : State), s.inReset = false →
    ∃ t, exec .forwardPulse s = .next t ∧
      t.ptr.p = s.ptr.p.map (· + 1) ∧
      t.ptr.h = (match s.ptr.p with
        | none => s.ptr.h
        | some p => s.ptr.h.map fun h => if (p + 1 - h).toNat = 2048 then h + 1 else h) ∧
      t.ptr.announceExpected = true ∧ t.lbi.announcePending = some s.now ∧
      t.ptr.unannounced =
        (if s.ptr.announceExpected then min 255 (s.ptr.unannounced + 1) else s.ptr.unannounced) ∧
      t.ptr.gaugeSilent =
        (s.ptr.gaugeSilent || s.ptr.announceExpected && s.ptr.unannounced == 7) ∧
      (s.ptr.p = none → t.drc = s.drc) ∧
      t.mdc = { s.mdc with mode :=
        if t.someBuilding = false ∧
          (s.mdc.mode = .active ∧ allExhausted t.rct = true ∨ s.mdc.mode = .draining) then .idle
        else s.mdc.mode } ∧
      t.clu = (match s.clu.round with
        | .idle | .lost => s.clu
        | .bidding =>
          if s.drivingClaim = false then { s.clu with round := .lost, gaveUp := true }
          else if t.mdc.mode = s.mdc.mode then s.clu else .atRest
        | .won => if t.mdc.mode = s.mdc.mode then s.clu else .atRest) ∧
      t.lbi.tx = (if t.mdc.mode ≠ s.mdc.mode ∧ s.drivingClaim = true ∧
        (s.clu.round = .bidding ∨ s.clu.round = .won) then none else s.lbi.tx) ∧
      ((s.clu.round = .won → s.idleNow = false) → t.rol.sending = s.rol.sending ∧
        t.rol.entries = (match s.ptr.p with
          | none => s.rol.entries
          | some p =>
            let a := s.setPtr { s.ptr with p := some (p + 1) }
            (if t.mdc.mode = s.mdc.mode then a else a.reofferAll s.wonStems).rol.entries.filter fun e =>
              !a.expired e.tag || s.rol.sending == some e.tag)) ∧
      t.now = s.now ∧ t.drc.missRun = s.drc.missRun ∧ t.drc.beamA = s.drc.beamA ∧ t.drc.beamB = s.drc.beamB ∧
      (s.drc.claims = [] → t.drc = s.drc ∧ t.rct = s.rct ∧ t.crm.cradleA = s.crm.cradleA ∧
        t.crm.cradleB = s.crm.cradleB)

/-- FORWARD_PULSE and the coast count. In a hold episode, whether another party or the station itself keeps it up,
the count goes up by one, stopping at 4095, whether or not P is synced; the pulse that brings it to 4 raises
HOLD-OVERRUN with parameter 4 and the advanced P, or 0, as its stamp, and no other pulse raises one (R15). The
level read can change only with BLOCKED, at the end of the pulse, and a change begins or ends an episode with the
count at 0 (R14, R78). Who else keeps the level up is the model's field for the other parties on HOLD (log 4), and
that the pulse is counted before BLOCKED is worked out is log 9. -/
def Obligations.ForwardPulseCountsTheCoast : Prop :=
  ∀ (s : State), s.inReset = false →
    ∃ t, exec .forwardPulse s = .next t ∧
      t.ptr.coast = (if t.ptr.holdRead = s.ptr.holdRead then
        (if s.ptr.holdRead = true then min 4095 (s.ptr.coast + 1) else s.ptr.coast) else 0) ∧
      (t.crm.blocked = s.crm.blocked → t.ptr.holdRead = s.ptr.holdRead) ∧
      (s.ptr.holdRead = true → s.ptr.holdOthers = true → t.ptr.holdRead = true) ∧
      t.ptr.holdOthers = s.ptr.holdOthers ∧ t.ptr.holdStop = s.ptr.holdStop ∧
      (s.ptr.holdRead = true → s.ptr.coast = 3 →
        ⟨.holdOverrun, 4, (s.ptr.p.map (· + 1)).getD 0⟩ ∈ t.standing) ∧
      (s.ptr.holdRead = false ∨ s.ptr.coast ≠ 3 →
        ∀ r ∈ t.standing, r.cause = .holdOverrun → r ∈ s.standing)

/-- FORWARD_PULSE and the head of the pending queue. The heads that have passed the station leave one after
another: each un-commits its stem and raises PASSED-CLAIM, of which the last one's record stands (R83, R68). A
head then at the station fires: the diverter is set, the gate is pulsed unless it is locked, and the stem joins the
falling list; with that list full it lands unverified and OVERSPEED stands (R84 to R86, R67). A head that is not
there stays, and nothing fires (R84). A cradle with no stem among these is unchanged, the miss run is unchanged
(R83, R93), and the station goes to IDLE when its last building cradle leaves and R162 or R163 asks for it. -/
def Obligations.ForwardPulseServesTheHead : Prop :=
  ∀ (s : State) (p : Tag) (f : Profile) (gone rest : List Claim),
    s.inReset = false → s.ptr.p = some p → s.mdc.profile = some f → s.drc.claims = gone ++ rest →
    (∀ e ∈ gone, f.d < pos (p + 1) e.stem.tag ∧ pos (p + 1) e.stem.tag ≤ 2047) →
    (∀ e ∈ rest.head?, pos (p + 1) e.stem.tag ≤ f.d ∨ 2048 ≤ pos (p + 1) e.stem.tag) →
    let goneFrom := fun c => (gone.filter (·.cradle = c)).length
    ∃ t, exec .forwardPulse s = .next t ∧
      t.drc.missRun = s.drc.missRun ∧
      (∀ e ∈ gone.getLast?, ⟨.passedClaim, e.stem.tag, p + 1⟩ ∈ t.standing) ∧
      (∀ c, goneFrom c = 0 → (∀ e ∈ rest.head?, e.cradle ≠ c ∨ s.drc.falling.length < 4) →
        t.cradle c = s.cradle c) ∧
      t.mdc = { s.mdc with mode :=
        if t.someBuilding = false ∧
          (s.mdc.mode = .active ∧ allExhausted t.rct = true ∨ s.mdc.mode = .draining) then .idle
        else s.mdc.mode } ∧
      ((∀ e ∈ rest.head?, pos (p + 1) e.stem.tag ≠ f.d) →
        t.drc = { s.drc with claims := rest } ∧
        ∀ c, (t.cradle c).stack = (s.cradle c).stack ∧
          (t.cradle c).committed = (s.cradle c).committed - goneFrom c) ∧
      ∀ e more, rest = e :: more → pos (p + 1) e.stem.tag = f.d →
        t.drc.claims = more ∧ t.drc.diverter = e.cradle ∧
        t.drc.gate = (if s.drc.gateLock then s.drc.gate else some s.now) ∧
        (s.drc.falling.length < 4 →
          t.drc.falling = s.drc.falling ++ [⟨e, s.now, .waiting⟩] ∧
          ∀ c, (t.cradle c).stack = (s.cradle c).stack ∧
            (t.cradle c).committed = (s.cradle c).committed - goneFrom c) ∧
        (4 ≤ s.drc.falling.length →
          t.drc.falling = s.drc.falling ∧
          (t.cradle e.cradle).stack =
            ⟨e.stem.tag, e.stem.length, e.stem.grade, e.kind, false⟩ :: (s.cradle e.cradle).stack ∧
          (t.cradle e.cradle).committed = (s.cradle e.cradle).committed - goneFrom e.cradle - 1 ∧
          (t.cradle (otherCradle e.cradle)).stack = (s.cradle (otherCradle e.cradle)).stack ∧
          (t.cradle (otherCradle e.cradle)).committed =
            (s.cradle (otherCradle e.cradle)).committed - goneFrom (otherCradle e.cradle) ∧
          ⟨.overspeed, e.stem.tag, p + 1⟩ ∈ t.standing)

/-- REVERSE_PULSE takes a synced P back by one, so every position shrinks by one; nothing else changes, and
while P is unsynced nothing changes at all (R6). -/
def Obligations.ReversePulseTakesTheTagBack : Prop :=
  ∀ (s : State), s.inReset = false →
    (s.ptr.p = none → exec .reversePulse s = .next s) ∧
    ∀ p, s.ptr.p = some p →
      exec .reversePulse s = .next (s.setPtr { s.ptr with p := some (p - 1) }) ∧
      (p - 1).toNat = (if p.toNat = 0 then 4095 else p.toNat - 1) ∧
      ∀ t, pos (p - 1) t = (if pos p t = 0 then 4095 else pos p t - 1)

/-- A good ANNOUNCE brings P to its tag, with PITCH-SLIP raised when P differed, moves H for a new stem and for
no other, clears the flag and the count and ends GAUGE-SILENT (R7 to R9, R11, R12); the reserves and announce
pending follow (R140, R143). The Drop Controller, the cradles, the recipes, the Re-offer List and the mode are
unchanged, and without a slip or a silence to end so are the alert records and the notices. -/
def Obligations.AnnounceBringsTheTrackerIntoLine : Prop :=
  ∀ (s : State) (st : Stem), s.inReset = false → s.receiving = true →
    ∃ t, exec (.announce st) s = .next t ∧
      t.ptr.p = some st.tag ∧
      t.ptr.h = (if s.ptr.p = none ∨ s.ptr.h.all (fun h => tagBefore h st.tag) = true then some st.tag
        else s.ptr.h) ∧
      t.ptr.announceExpected = false ∧ t.ptr.unannounced = 0 ∧ t.ptr.gaugeSilent = false ∧
      (∀ p ∈ s.ptr.p, p ≠ st.tag → ⟨.pitchSlip, p, st.tag⟩ ∈ t.standing) ∧
      t.lbi.announcePending = none ∧ t.lbi.claimReserve = some s.now ∧ t.lbi.reclaimReserve = none ∧
      t.lbi.receiver = .waitingStart ∧ t.lbi.openRun = 0 ∧
      t.ptr.holdBlocked = s.ptr.holdBlocked ∧ t.ptr.holdStop = s.ptr.holdStop ∧
      t.ptr.holdRead = s.ptr.holdRead ∧ t.ptr.coast = s.ptr.coast ∧
      t.drc = s.drc ∧ t.crm = s.crm ∧ t.rct = s.rct ∧ t.rol = s.rol ∧ t.mdc = s.mdc ∧ t.now = s.now ∧
      (s.ptr.p.all (· == st.tag) = true → s.ptr.gaugeSilent = false →
        t.alc = s.alc ∧ t.lbi.notices = s.lbi.notices ∧ t.lbi.lost = s.lbi.lost)

/-- A good ANNOUNCE of a new stem opens a CLAIM round at an eligible station with a candidate, and leaves the
Claim Unit at rest at any other; a repeat opens none (R31, R32, R40). At a repeat the end of the frame ends a round
that lost arbitration (R42), and a round LOST by a start given up stays LOST until the bus is idle (R41): that the
two ends differ is the model's reading (log 8). -/
def Obligations.AnnounceOpensAClaimRound : Prop :=
  ∀ (s : State) (st : Stem), s.inReset = false → s.receiving = true →
    ∃ t, exec (.announce st) s = .next t ∧
      t.clu =
        if s.ptr.p = none ∨ s.ptr.h.all (fun h => tagBefore h st.tag) = true then
          if (s.mdc.mode = .active ∨ s.mdc.mode = .draining) ∧ 1 ≤ st.length.val ∧ st.double = false
              ∧ s.drc.claims.length < 32 ∧ (∀ e ∈ s.drc.claims, e.stem.tag ≠ st.tag) then
            match s.choose .claim st with
            | some c => { round := .bidding, chosen := some c, gaveUp := false }
            | none => .atRest
          else .atRest
        else s.clu.afterFrame

/-- ANNOUNCE_PENDING_END ends announce pending 2 ms after it began; a pitch whose announcement is still awaited
goes unannounced, and the eighth raises GAUGE-SILENT with P, or 0, as parameter and stamp (R142, R11, R12). That
the time base moves on to the due time is the model's own (log 2). -/
def Obligations.AnnouncePendingEndCountsThePitch : Prop :=
  ∀ (s : State) (since : Nat), s.inReset = false → s.lbi.announcePending = some since →
    ∃ t, exec .announcePendingEnd s = .next t ∧
      t.lbi.announcePending = none ∧ t.now = max s.now (since + 500) ∧
      t.ptr.announceExpected = false ∧ t.ptr.p = s.ptr.p ∧ t.ptr.h = s.ptr.h ∧
      t.ptr.unannounced =
        (if s.ptr.announceExpected then min 255 (s.ptr.unannounced + 1) else s.ptr.unannounced) ∧
      t.drc = s.drc ∧ t.crm = s.crm ∧ t.rct = s.rct ∧ t.rol = s.rol ∧ t.clu = s.clu ∧ t.mdc = s.mdc ∧
      (if s.ptr.announceExpected = true ∧ s.ptr.unannounced = 7 ∧ s.ptr.gaugeSilent = false then
        t.ptr.gaugeSilent = true ∧ ⟨.gaugeSilent, s.ptr.p.getD 0, s.ptr.p.getD 0⟩ ∈ t.standing
      else t.ptr.gaugeSilent = s.ptr.gaugeSilent ∧ t.alc = s.alc ∧ t.lbi.notices = s.lbi.notices)

/-- HOLD_LEVEL_CHANGE: HOLD reads marked while this station or another party marks it; a change of the level
read begins or ends a hold episode with the coast count at 0, and any other change does not (R14). That the
operand is what the other parties put on HOLD is the model's own (log 4). -/
def Obligations.HoldLevelChangeSetsTheEpisode : Prop :=
  ∀ (s : State) (marked : Bool), s.inReset = false →
    exec (.holdLevelChange marked) s = .next (s.setPtr { s.ptr with
      holdOthers := marked
      holdRead := s.ptr.holdBlocked || s.ptr.holdStop || marked
      coast := if (s.ptr.holdBlocked || s.ptr.holdStop || marked) = s.ptr.holdRead then s.ptr.coast
        else 0 })

/-! ## The line bus -/

/-- Frames of other devices of which a station takes nothing but their end (R139, R140, R160, R173, R179): a CLAIM
or RECLAIM, an ALERT, BUNCH, QUOTA or STATUS, a frame with a bad check of any kind but ANNOUNCE and REOFFER, and a
JOIN, a CONFLICT or a QUERY with another number. The receiver waits for a start, running reserves end (R143), a
round that lost arbitration is over (R42), and nothing else changes. That a round LOST by a start given up is not
over with the frame is the model's reading of R41 against R42 (log 8). -/
def Obligations.FramesTakenOnlyForTheirEnd : Prop :=
  ∀ (s : State) (k : RoundKind) (kind bad : FrameKind) (n : StationNo) (topic : Fin 16),
    s.inReset = false → s.receiving = true →
    let t := (s.setLbi s.lbi.afterFrame).setClu s.clu.afterFrame
    exec (.claimReceived k) s = .next t ∧
    (kind = .alert ∨ kind = .bunch ∨ kind = .quota ∨ kind = .status →
      exec (.noticeReceived kind) s = .next t) ∧
    (bad ≠ .announce → bad ≠ .reoffer → exec (.badCheckFrame bad) s = .next t) ∧
    (s.number ≠ some n →
      exec (.joinReceived n) s = .next t ∧ exec (.conflictReceived n) s = .next t ∧
        exec (.query n topic) s = .next t)

/-- Frames that fail: a bad REOFFER opens the reclaim reserve, a bad ANNOUNCE ends announce pending and opens the
claim reserve, a frame cut short leaves the bus idle and opens no reserve, one of kind 0 ending announce pending,
and a frame of kind 11..15 leaves the receiver waiting for idle (R139, R140, R142, R143). P and H, drops, cradles,
recipes, the Re-offer List and the mode are unchanged by each. That a frame of unknown kind ends a running reserve,
and leaves the run at 0, is the model's reading (logs 12 and 13), and so is that of two rounds LOST a frame with a
bad check ends the one that lost arbitration and not the one that gave up its start (R41, R42; log 8). -/
def Obligations.FramesThatFail : Prop :=
  ∀ (s : State) (kind : FrameKind) (code : BitVec 4), s.inReset = false → s.receiving = true →
    exec (.badCheckFrame .reoffer) s =
      .next ((s.setLbi { s.lbi.afterFrame with reclaimReserve := some s.now }).setClu s.clu.afterFrame) ∧
    (∃ t, exec (.badCheckFrame .announce) s = .next t ∧
      t.lbi.receiver = .waitingStart ∧ t.lbi.openRun = 0 ∧ t.lbi.announcePending = none ∧
      t.lbi.claimReserve = some s.now ∧ t.lbi.reclaimReserve = none ∧ t.clu = s.clu.afterFrame ∧
      t.ptr.p = s.ptr.p ∧ t.ptr.h = s.ptr.h ∧
      t.ptr.unannounced = (if s.lbi.announcePending.isSome ∧ s.ptr.announceExpected = true then
        min 255 (s.ptr.unannounced + 1) else s.ptr.unannounced) ∧
      t.drc = s.drc ∧ t.crm = s.crm ∧ t.rct = s.rct ∧ t.rol = s.rol ∧ t.mdc = s.mdc) ∧
    (∃ t, exec (.frameCutShort kind) s = .next t ∧
      t.lbi.receiver = .waitingStart ∧ t.lbi.openRun = 11 ∧ t.lbi.claimReserve = none ∧
      t.lbi.reclaimReserve = none ∧ t.clu = s.clu.afterIdle ∧
      t.lbi.announcePending = (if kind = .announce then none else s.lbi.announcePending) ∧
      t.ptr.p = s.ptr.p ∧ t.ptr.h = s.ptr.h ∧
      t.drc = s.drc ∧ t.crm = s.crm ∧ t.rct = s.rct ∧ t.rol = s.rol ∧ t.mdc = s.mdc) ∧
    (11 ≤ code.toNat → exec (.unknownKindFrame code) s = .next (s.setLbi { s.lbi with
      receiver := .waitingIdle, openRun := 0, claimReserve := none, reclaimReserve := none }))

/-- A marked bit outside a frame is a start mark, at which a bidder that has not started gives up (R139, R41),
and sets the run back to 0 while the receiver waits for idle; the eleventh open bit makes the bus idle, at which
a LOST round is over (R139, R141, R42); a reserve with no start mark ends 24 bit times after it began (R143).
That the time base moves on to the due time is the model's own (log 2). -/
def Obligations.MarksIdleAndReserveEnds : Prop :=
  ∀ (s : State) (since : Nat), s.inReset = false → s.lbi.receiver ≠ .inFrame →
    (s.lbi.receiver = .waitingStart → exec .startMark s =
      .next ((s.setLbi { s.lbi with receiver := .inFrame, openRun := 0 }).setClu
        (if s.clu.round = .bidding ∧ s.drivingClaim = false then
          { s.clu with round := .lost, gaveUp := true } else s.clu))) ∧
    (s.lbi.receiver = .waitingIdle →
      exec .startMark s = .next (s.setLbi { s.lbi with openRun := 0 })) ∧
    exec .busIdle s = .next
      ((s.setLbi { s.lbi with receiver := .waitingStart, openRun := 11 }).setClu s.clu.afterIdle) ∧
    (s.lbi.claimReserve = some since → exec .claimReserveEnd s =
      .next ((s.setNow (max s.now (since + 24))).setLbi { s.lbi with claimReserve := none })) ∧
    (s.lbi.reclaimReserve = some since → exec .reclaimReserveEnd s =
      .next ((s.setNow (max s.now (since + 24))).setLbi { s.lbi with reclaimReserve := none }))

/-- ARBITRATION_LOSS: the station stops driving and goes on receiving; a bidder goes to LOST, a REOFFER entry
stays in the list and a notice in the queue; neither the mismatch count, nor the lost flag, nor anything else
changes (R42, R107, R145, R146). -/
def Obligations.ArbitrationLossStopsDriving : Prop :=
  ∀ (s : State) (f : Frame), s.inReset = false → s.lbi.tx = some f →
    (s.drivingClaim = true → s.clu.round = .bidding) →
    exec .arbitrationLoss s = .next
      (((s.setLbi { s.lbi with tx := none }).setRol { s.rol with sending := none }).setClu
        (if s.drivingClaim = true then { s.clu with round := .lost, gaveUp := false } else s.clu))

/-- TRANSMIT_MISMATCH abandons the frame: a round is over with no commit and no forfeit, a REOFFER entry and a
notice stay, and the first mismatch sets the count to 1 (R44, R107, R147, R148). The second raises BUS-FAULT and
sets the count to 0: it enters STOP, or waits in the level-2 pending set in STOP (R148, R121, R122). What the
receiver counts after a mismatch at the start mark is the model's choice (log 16) and is left out of the second
clause. -/
def Obligations.TransmitMismatchIsCounted : Prop :=
  ∀ (s : State) (f : Frame) (atStart : Bool), s.inReset = false → s.lbi.tx = some f →
    (s.lbi.mismatches = 0 → ∃ t, exec (.transmitMismatch atStart) s = .next t ∧
      t.clu = (if s.drivingClaim = true then .atRest else s.clu) ∧
      t.rol = { s.rol with sending := none } ∧
      t.lbi = { s.lbi with
        tx := none, mismatches := 1, receiver := t.lbi.receiver, openRun := t.lbi.openRun } ∧
      (atStart = false → t.lbi.receiver = s.lbi.receiver ∧ t.lbi.openRun = s.lbi.openRun) ∧
      t.ptr = s.ptr ∧ t.drc = s.drc ∧ t.crm = s.crm ∧ t.rct = s.rct ∧ t.alc = s.alc ∧ t.mdc = s.mdc) ∧
    (s.lbi.mismatches = 1 → ∃ t, exec (.transmitMismatch atStart) s = .next t ∧
      t.lbi.tx = none ∧ t.lbi.mismatches = 0 ∧ t.rol.sending = none ∧
      (s.drivingClaim = true → t.clu = .atRest) ∧
      (s.level ≠ .stop → t.alc.current = some ⟨.busFault, 0, s.stamp⟩ ∧ t.mdc.mode = .stopped ∧
        t.alc.savedMode = some s.mdc.mode ∧ t.drc.claims = [] ∧ t.drc.gateLock = true) ∧
      t.drc.falling = s.drc.falling ∧ t.crm.cradleA.stack = s.crm.cradleA.stack ∧
      t.crm.cradleB.stack = s.crm.cradleB.stack ∧ t.ptr.p = s.ptr.p ∧ t.ptr.h = s.ptr.h ∧
      (s.level = .stop → ⟨.busFault, 0, s.stamp⟩ ∈ t.alc.pend2 ∧ t.alc.current = s.alc.current ∧
        t.mdc = s.mdc ∧ t.drc = s.drc))

/-! ## The claim round -/

/-- CLAIM_START and RECLAIM_START: a bidder drives the start mark of its frame, with its tag and bid, 8 bit
times after the frame that opened the round ended (R41, R53, R144); WON: with the last bid bit driven the bidder
is the remaining sender (R43). That the time base moves on to the due time is the model's own (log 2). -/
def Obligations.ClaimFrameStartsAndIsWon : Prop :=
  ∀ (s : State) (c : Candidate) (since : Nat), s.inReset = false → s.clu.round = .bidding →
    s.clu.chosen = some c →
    (s.lbi.tx = none → c.kind = .claim → s.lbi.claimReserve = some since →
      exec .claimStart s = .next ((s.setNow (max s.now (since + 8))).setLbi { s.lbi with
        tx := some (.claim .claim c.stem.tag c.bid), receiver := .inFrame, openRun := 0 })) ∧
    (s.lbi.tx = none → c.kind = .reclaim → s.lbi.reclaimReserve = some since →
      exec .reclaimStart s = .next ((s.setNow (max s.now (since + 8))).setLbi { s.lbi with
        tx := some (.claim .reclaim c.stem.tag c.bid), receiver := .inFrame, openRun := 0 })) ∧
    (s.lbi.tx = some (.claim c.kind c.stem.tag c.bid) →
      exec .won s = .next (s.setClu { s.clu with round := .won }))

/-- The end of a won CLAIM or RECLAIM frame commits to a cradle still FILLING on the candidate's recipe that the
stem fits, with the carrier short of the station: the pending entry takes its place in tag order, the committed
count goes up by one, the envelope takes the stem in, and k = N makes the cradle CLOSING (R43, R46, R47, R54, R66).
The frame was sent successfully: the count is 0 and the reserves end (R140, R148). The entry's place is that of
InsertionKeepsTagOrder, and where the rule's words name no one place it is the model's choice (log 19). -/
def Obligations.WonFrameCommitsToAFillingCradle : Prop :=
  ∀ (s : State) (c : Candidate) (x : Recipe), s.inReset = false → s.clu.round = .won →
    s.clu.chosen = some c → s.lbi.tx = some (.claim c.kind c.stem.tag c.bid) → c.opening = false →
    (s.mdc.mode = .active ∨ s.mdc.mode = .draining) →
    (s.cradle c.cradle).state = .filling → (s.cradle c.cradle).recipe = some c.recipe →
    s.rct[c.recipe]? = some x →
    (x.s = 255 ∨ (widen (s.cradle c.cradle).envelope c.stem.length.val).spread ≤ x.s) →
    s.notReached c.stem.tag = true →
    ∃ t, exec (sentCommand c.kind) s = .next t ∧
      t.cradle c.cradle = { s.cradle c.cradle with
        committed := (s.cradle c.cradle).committed + 1
        envelope := some (widen (s.cradle c.cradle).envelope c.stem.length.val)
        state := if (s.cradle c.cradle).k + 1 = x.n then .closing else .filling } ∧
      t.drc = { s.drc with
        claims := insertByTag (·.stem.tag) ⟨c.stem, c.cradle, c.kind⟩ s.drc.claims } ∧
      t.cradle (otherCradle c.cradle) = s.cradle (otherCradle c.cradle) ∧
      t.clu = .atRest ∧ t.lbi.tx = none ∧ t.lbi.mismatches = 0 ∧ t.lbi.receiver = .waitingStart ∧
      t.lbi.claimReserve = none ∧ t.lbi.reclaimReserve = none ∧
      t.rct = s.rct ∧ t.rol = s.rol ∧ t.mdc = s.mdc ∧ t.ptr.p = s.ptr.p ∧ t.ptr.h = s.ptr.h

/-- The end of a won frame for an opening candidate commits in ACTIVE when the cradle is EMPTY and the recipe can
bind: the cradle is bound with committed count 1 and envelope L..L, FILLING, or CLOSING for N = 1, and the recipe
counts one more in progress (R24, R48, R65). The entry's place is that of InsertionKeepsTagOrder, and where the
rule's words name no one place it is the model's choice (log 19). -/
def Obligations.WonFrameOpensAnEmptyCradle : Prop :=
  ∀ (s : State) (c : Candidate) (x : Recipe), s.inReset = false → s.clu.round = .won →
    s.clu.chosen = some c → s.lbi.tx = some (.claim c.kind c.stem.tag c.bid) → c.opening = true →
    s.mdc.mode = .active → (s.cradle c.cradle).state = .empty → (s.cradle c.cradle).stack = [] →
    s.rct[c.recipe]? = some x → x.exhausted = false → (x.q = 0 ∨ x.made + x.inProgress < x.q) →
    s.notReached c.stem.tag = true →
    ∃ t, exec (sentCommand c.kind) s = .next t ∧
      t.cradle c.cradle = { s.cradle c.cradle with
        recipe := some c.recipe
        committed := 1
        envelope := some ⟨c.stem.length.val, c.stem.length.val⟩
        state := if x.n = 1 then .closing else .filling } ∧
      t.rct[c.recipe]? = some { x with inProgress := x.inProgress + 1 } ∧
      (∀ i, i ≠ c.recipe → t.rct[i]? = s.rct[i]?) ∧
      t.drc = { s.drc with
        claims := insertByTag (·.stem.tag) ⟨c.stem, c.cradle, c.kind⟩ s.drc.claims } ∧
      t.cradle (otherCradle c.cradle) = s.cradle (otherCradle c.cradle) ∧
      t.clu = .atRest ∧ t.lbi.tx = none ∧ t.lbi.mismatches = 0 ∧
      t.rol = s.rol ∧ t.mdc = s.mdc ∧ t.ptr.p = s.ptr.p ∧ t.ptr.h = s.ptr.h

/-- A won stem whose recheck fails is forfeited at once: it goes to the Re-offer List, which takes or discards
it, and no pending entry, cradle or recipe changes (R46, R49, R50). The recheck fails outside ACTIVE and
DRAINING, for an opening candidate outside ACTIVE or with its cradle not EMPTY or its recipe unable to bind, for
a filling candidate whose cradle is not FILLING on its recipe, and for a carrier at or past the station. -/
def Obligations.WonFrameForfeitedAtOnce : Prop :=
  ∀ (s : State) (c : Candidate), s.inReset = false → s.clu.round = .won →
    s.clu.chosen = some c → s.lbi.tx = some (.claim c.kind c.stem.tag c.bid) →
    (s.mdc.mode ≠ .active ∧ s.mdc.mode ≠ .draining ∨ s.notReached c.stem.tag = false ∨
      c.opening = true ∧ (s.mdc.mode ≠ .active ∨ (s.cradle c.cradle).state ≠ .empty ∨
        (s.rct[c.recipe]?).any (·.canBind) = false) ∨
      c.opening = false ∧ ((s.cradle c.cradle).state ≠ .filling ∨
        (s.cradle c.cradle).recipe ≠ some c.recipe)) →
    ∃ t, exec (sentCommand c.kind) s = .next t ∧
      t.drc = s.drc ∧ t.crm.cradleA = s.crm.cradleA ∧ t.crm.cradleB = s.crm.cradleB ∧ t.rct = s.rct ∧
      t.clu = .atRest ∧ t.lbi.tx = none ∧ t.lbi.mismatches = 0 ∧ t.rol = (s.reoffer c.stem).rol

/-- A good REOFFER of another station: P and H do not move, the reclaim reserve opens, and a RECLAIM round opens at
a station that does not hold the tag pending or in its own list, bids in its mode, is synced with D at least pos(t)
+ 2, has room in its queue, and has a candidate; nothing else changes (R51, R52, R109, R143). At any other station
the round state is IDLE. An ignored REOFFER leaves it IDLE too (R51, R109), whatever round it finds: the model
takes that rule before R41's for a round LOST by a start given up (log 8). -/
def Obligations.ReofferOpensAReclaimRound : Prop :=
  ∀ (s : State) (n : StationNo) (st : Stem), s.inReset = false → s.receiving = true →
    exec (.reofferReceived n st) s = .next
      ((s.setLbi { s.lbi.afterFrame with reclaimReserve := some s.now }).setClu
        (if (∃ e ∈ s.drc.claims, e.stem.tag = st.tag) ∨ (∃ e ∈ s.rol.entries, e.tag = st.tag) then
          .atRest
        else if (s.mdc.mode = .active ∨ s.mdc.mode = .draining) ∧
            (∃ p ∈ s.ptr.p, ∃ f ∈ s.mdc.profile, pos p st.tag + 2 ≤ f.d) ∧ 1 ≤ st.length.val ∧
            st.double = false ∧ s.drc.claims.length < 32 then
          match s.choose .reclaim st with
          | some c => { round := .bidding, chosen := some c, gaveUp := false }
          | none => .atRest
        else .atRest))

/-- The urgency, fill and width fields of a bid (R36, R37, R38). -/
def Obligations.BidFields : Prop :=
  ∀ (r : Recipe) (k l : Nat) (e : Envelope) (fallback : Bool),
    (r.fallback = true → urgency r k = 3) ∧
    (r.fallback = false → k + 1 = r.n → urgency r k = 0) ∧
    (r.fallback = false → k + 1 ≠ r.n → 1 ≤ k → urgency r k = 1) ∧
    (r.fallback = false → k + 1 ≠ r.n → k = 0 → urgency r k = 2) ∧
    (k < r.n →
      fill r k * r.n ≤ 15 * (r.n - k - 1) ∧ 15 * (r.n - k - 1) < (fill r k + 1) * r.n ∧
      fill r k ≤ 14 ∧ (k + 1 = r.n → fill r k = 0) ∧
      fill { r with fallback := fallback } k = fill r k) ∧
    (e.spread ≤ 511 → 2 * width e ≤ e.spread ∧ e.spread < 2 * (width e + 1)) ∧
    (511 ≤ e.spread → width e = 255) ∧
    (r.fits e = true → r.s ≤ 250 → width e ≤ 125) ∧
    width (widen none l) = 0 ∧
    (e.least ≤ l → l ≤ e.greatest → widen (some e) l = e)

/-- The bid: its four fields in their places, at most 1,032,191, the station number as its remainder on division
by 64, so that stations with different numbers never drive equal bids, and the lower of two bids is marked where
they first differ, so that it prevails on the line (R39, R42). -/
def Obligations.BidComposition : Prop :=
  ∀ (r r' : Recipe) (k k' : Nat) (e e' : Envelope) (n n' : StationNo), k < r.n → k' < r'.n →
    bidOf r k e n = urgency r k * 262144 + fill r k * 16384 + width e * 64 + n.val ∧
    bidOf r k e n / 262144 = urgency r k ∧ bidOf r k e n / 16384 % 16 = fill r k ∧
    bidOf r k e n / 64 % 256 = width e ∧ bidOf r k e n % 64 = n.val ∧
    bidOf r k e n ≤ 1032191 ∧
    (n ≠ n' → bidOf r k e n ≠ bidOf r' k' e' n') ∧
    (bidOf r k e n < bidOf r' k' e' n' →
      ∃ i < 20, (numBits 20 (bidOf r k e n)).take i = (numBits 20 (bidOf r' k' e' n')).take i ∧
        (numBits 20 (bidOf r k e n))[i]? = some false ∧
        (numBits 20 (bidOf r' k' e' n'))[i]? = some true)

/-- The chosen candidate is a candidate of one cradle, no other candidate bids lower, and at equal bids it is
the candidate of cradle A; it fits its recipe's spread limit and suits the recipe (R33 to R35, R40). -/
def Obligations.ChosenCandidateBidsLowest : Prop :=
  ∀ (s : State) (kind : RoundKind) (st : Stem) (c : Candidate), s.choose kind st = some c →
    ∃ n x, s.number = some n ∧ s.rct[c.recipe]? = some x ∧ x.stemTest st = true ∧
      s.candidate n kind st c.cradle = some c ∧ c.kind = kind ∧ c.stem = st ∧
      (∀ y c', s.candidate n kind st y = some c' → c.bid ≤ c'.bid) ∧
      (c.cradle = .b → ∀ c', s.candidate n kind st .a = some c' → c.bid < c'.bid) ∧
      (c.opening = true → s.mdc.mode = .active ∧ (s.cradle c.cradle).state = .empty ∧
        x.canBind = true ∧ ∀ i y, i < c.recipe → s.rct[i]? = some y → y.accepts st = false) ∧
      (c.opening = false → (s.cradle c.cradle).state = .filling ∧
        (s.cradle c.cradle).recipe = some c.recipe ∧
        (x.s = 255 ∨ (widen (s.cradle c.cradle).envelope st.length.val).spread ≤ x.s))

/-! ## The Re-offer List, the notice queue and the query responder -/

/-- The Re-offer List takes a forfeited stem: it is discarded, silently, with the policy disabled (as it reads
before a profile is accepted), with pos(t) + 2 beyond the span, with its tag there already, or with 32 entries
there, and inserted otherwise (R103). Its place is that of InsertionKeepsTagOrder (R104); where the words of R104
name no one place it is the model's choice (log 19). -/
def Obligations.ReofferListTakesOrDiscards : Prop :=
  ∀ (s : State) (st : Stem),
    (s.mdc.profile = none → s.reoffer st = s) ∧
    ∀ f, s.mdc.profile = some f →
      s.reoffer st =
        if f.reoffer = false ∨ (∃ p ∈ s.ptr.p, f.span < pos p st.tag + 2) ∨
            (∃ e ∈ s.rol.entries, e.tag = st.tag) ∨ 32 ≤ s.rol.entries.length then s
        else s.setRol { s.rol with entries := insertByTag (·.tag) st s.rol.entries }

/-- Insertion in the Re-offer List and in the pending queue of claims alike (R47, R104): the new entry goes into the
list as it stands, behind every entry whose tag is before its own, and ahead of every entry whose tag is after it
wherever some place has both. Among entries that all lie within half the tag range, in tag order, with the new tag
not there, the order is kept (R82). Where no place has both, the new entry still goes behind the earlier ones, which
is the model's choice (log 19), and where several have, nothing is stated of which it takes. -/
def Obligations.InsertionKeepsTagOrder : Prop :=
  ∀ (α : Type) (tagOf : α → Tag) (base : Tag) (e : α) (l : List α),
    ((∀ x ∈ e :: l, (tagOf x - base).toNat < 2048) → (∀ x ∈ l, tagOf x ≠ tagOf e) →
      l.Pairwise (fun x y => tagBefore (tagOf x) (tagOf y) = true) →
      (insertByTag tagOf e l).Pairwise (fun x y => tagBefore (tagOf x) (tagOf y) = true) ∧
        (insertByTag tagOf e l).Perm (e :: l)) ∧
    ∃ ahead behind, l = ahead ++ behind ∧ insertByTag tagOf e l = ahead ++ e :: behind ∧
      (∀ x ∈ behind, tagBefore (tagOf x) (tagOf e) = false) ∧
      ∀ ahead' behind', l = ahead' ++ behind' →
        (∀ x ∈ ahead', tagBefore (tagOf e) (tagOf x) = false) →
        (∀ x ∈ behind', tagBefore (tagOf x) (tagOf e) = false) →
        ∀ x ∈ ahead, tagBefore (tagOf e) (tagOf x) = false

/-- REOFFER_SEND at a start point: the expired entries leave, and the head of what is left is driven; with none
left the head of the notice queue is sent as NOTICE_SEND sends it, if there is one, and with no notice either the
expired entries leave and nothing is driven (R105, R106). REOFFER_SENT: the entry leaves
the list, the reclaim reserve opens and the mismatch count is 0 (R107, R143, R148). Which LOST round the end of that
frame ends is log 8 (R41, R42). -/
def Obligations.ReofferIsSentAndLeaves : Prop :=
  ∀ (s : State) (n : StationNo) (st : Stem) (rest : List Stem), s.inReset = false →
    (s.startPoint = true → s.number = some n → s.rol.sending = none → s.rol.entries ≠ [] →
      (s.rol.entries.filter (fun e => !s.expired e.tag) = st :: rest →
        exec .reofferSend s = .next ((s.setRol ⟨st :: rest, some st.tag⟩).setLbi { s.lbi with
          tx := some (.reoffer n st), receiver := .inFrame, openRun := 0 })) ∧
      (s.rol.entries.filter (fun e => !s.expired e.tag) = [] → s.lbi.notices ≠ [] →
        exec .reofferSend s = exec .noticeSend s) ∧
      (s.rol.entries.filter (fun e => !s.expired e.tag) = [] → s.lbi.notices = [] →
        exec .reofferSend s = .next (s.setRol ⟨[], none⟩))) ∧
    (s.lbi.tx = some (.reoffer n st) → s.rol.sending = some st.tag →
      exec .reofferSent s = .next (((s.setLbi { s.lbi.afterFrame with
        tx := none, mismatches := 0, reclaimReserve := some s.now }).setClu s.clu.afterFrame).setRol
          ⟨s.rol.entries.filter (fun e => e.tag != st.tag), none⟩))

/-- NOTICE_SEND at a start point drives the head of the notice queue when no stem is left to re-offer, the list
being empty or every entry of it expired, and those leave it (R105, R106): an ALERT with the record and the lost
flag as they stand; a frame with a lost field clears "lost during send", and an ALERT its resend mark (R141, R149,
R151, R152). -/
def Obligations.NoticeSendDrivesTheHead : Prop :=
  ∀ (s : State) (n : StationNo) (m : Notice) (rest : List Notice), s.inReset = false →
    s.startPoint = true → s.number = some n →
    (∀ e ∈ s.rol.entries, s.expired e.tag = true ∧ s.rol.sending ≠ some e.tag) →
    s.lbi.notices = m :: rest →
    exec .noticeSend s = .next ((s.setRol { s.rol with entries := [] }).setLbi { s.lbi with
      tx := some (match m with
        | .bunch b => .bunch n b
        | .quota i made => .quota n i made
        | .alert => .alert n s.alc.current s.lbi.lost
        | .join j => .join n j
        | .conflict => .conflict n
        | .status topic (.mode mode level p h claims falling reoffers _) =>
          .status n topic (.mode mode level p h claims falling reoffers s.lbi.lost)
        | .status topic body => .status n topic body)
      receiver := .inFrame
      openRun := 0
      lostDuring := (match m with
        | .alert | .status _ (.mode _ _ _ _ _ _ _ _) => false
        | _ => s.lbi.lostDuring)
      resend := if m = .alert then false else s.lbi.resend })

/-- NOTICE_SENT: the notice leaves the queue, but an ALERT marked to be sent again stays and loses its mark; the
mismatch count is 0; a frame that carried the lost flag set clears it unless a notice was lost during the send;
the JOIN starts the join timer; nothing else changes (R148, R149, R151, R152, R159), but for the LOST round that
the end of a frame ends (R42, log 8). -/
def Obligations.NoticeSentLeavesTheQueue : Prop :=
  ∀ (s : State) (f : Frame), s.inReset = false → s.lbi.tx = some f → f.isNotice = true →
    let again := s.lbi.resend = true ∧ s.lbi.notices.head? = some .alert
    let carried := match f with
      | .alert _ _ lost => lost
      | .status _ _ (.mode _ _ _ _ _ _ _ lost) => lost
      | _ => false
    let isJoin := match f with
      | .join _ _ => true
      | _ => false
    exec .noticeSent s = .next (((s.setLbi { s.lbi.afterFrame with
        tx := none
        mismatches := 0
        notices := if again then s.lbi.notices else s.lbi.notices.tail
        resend := if again then false else s.lbi.resend
        lost := if carried = true ∧ s.lbi.lostDuring = false then false else s.lbi.lost }).setClu
          s.clu.afterFrame).setMdc { s.mdc with
        joinTimer := if isJoin = true ∧ s.mdc.joinTimer = .waiting then .running s.now
          else s.mdc.joinTimer })

/-- QUERY with the station's number: the parts of the answer join the notice queue in order until it is full,
and a part or a whole QUERY that finds it full is discarded with the lost flag set, NOTICE-LOST standing when the
flag was clear (R140, R150, R173, R174). Topics 8 to 15 and recipe indexes with no recipe are refused. The end of
the frame ends a round that lost arbitration, and not one LOST by a start given up, which is log 8 (R41, R42). -/
def Obligations.QueryAnswerJoinsTheQueue : Prop :=
  ∀ (s : State) (n : StationNo) (topic : Fin 16), s.inReset = false → s.receiving = true →
    s.number = some n →
    let answer : List StatusBody :=
      if topic.val = 0 then [.mode s.mdc.mode s.level s.ptr.p s.ptr.h s.drc.claims.length
        s.drc.falling.length s.rol.entries.length s.lbi.lost]
      else if topic.val = 1 then s.crm.cradleA.bodies
      else if topic.val = 2 then s.crm.cradleB.bodies
      else if topic.val = 7 then s.alertBodies
      else if topic.val ≤ 6 then [((s.rct[topic.val - 3]?).map Recipe.body).getD .refused]
      else [.refused]
    let whole := s.lbi.notices ++ answer.map (.status topic)
    ∃ t, exec (.query n topic) s = .next t ∧
      (s.lbi.notices.length < 8 → t.lbi.notices = whole.take 8) ∧
      (8 ≤ s.lbi.notices.length → t.lbi.notices = s.lbi.notices) ∧
      t.lbi.lost = (s.lbi.lost || decide (8 < whole.length)) ∧
      (s.lbi.lost = false → 8 < whole.length → ⟨.noticeLost, 0, s.ptr.p.getD 0⟩ ∈ t.standing) ∧
      (whole.length ≤ 8 → t.alc = s.alc) ∧
      t.ptr = s.ptr ∧ t.drc = s.drc ∧ t.crm = s.crm ∧ t.rct = s.rct ∧ t.rol = s.rol ∧ t.mdc = s.mdc ∧
      t.clu = s.clu.afterFrame

/-! ## Reset, the profile, joining the line -/

/-- RESET sets every block to its after-reset state, with the qualified levels of the beams and cradle sensors, and
the level on HOLD, as read at that moment; a cradle in place is STALE, STALE-CRADLE is current and its ALERT is
queued (R1, R17, R30, R56, R62, R81, R101, R115, R136, R154). The qualifiers stand as they have run, those still
qualifying too, and a level at true is held from then on; where power was applied during the reset, each has taken
the first level it read as its qualified level and qualified changes from then on, bit time by bit time as
StepRunsFrontCommand says (R182). That no edge of PITCH is carried over is the
model's choice (log 15), as are the waiting commands that stay (log 18) and the time base at 0 (log 1). -/
def Obligations.ResetSetsEveryBlock : Prop :=
  ∀ (s : State) (powerOn : List (Pins Bool)),
    let before : Pin → Qualifier := fun p => match powerOn with
      | [] => s.qualifier p
      | first :: later => later.foldl
          (fun q levels => { q with pin := levels.get p }.tick p)
          ⟨first.get p, first.get p, 0, false⟩
    let level := fun p => (before p).level
    let beam := fun (blocked : Bool) => (⟨blocked, if blocked then some 0 else none, false⟩ : Beam)
    let cradle := fun (present : Bool) =>
      (⟨if present then .stale else .absent, none, [], 0, none, none, none⟩ : CradleRec)
    let stale := level (.sensor .a) || level (.sensor .b)
    ∃ t, exec (.reset powerOn) s = .next t ∧
      (∀ p, t.qualifier p = { before p with held := level p }) ∧
      t.inputs.pitch = s.inputs.pitch ∧ t.inputs.dir = s.inputs.dir ∧
      t.inputs.pitchSeen = s.inputs.pitch ∧
      t = { ptr := ⟨none, none, false, 0, false, false, false, s.ptr.holdOthers, s.ptr.holdOthers, 0⟩
            rct := []
            clu := .atRest
            rol := ⟨[], none⟩
            drc := ⟨[], [], 0, none, .a, false, beam (level (.beam .a)), beam (level (.beam .b))⟩
            crm := ⟨cradle (level (.sensor .a)), cradle (level (.sensor .b)), false⟩
            alc := ⟨if stale then some ⟨.staleCradle, if level (.sensor .a) then 0 else 1, 0⟩ else none,
              none, [], [], none, none⟩
            lbi := ⟨.waitingIdle, 0, none, 0, if stale then [.alert] else [], false, false, false, none,
              none, none⟩
            mdc := ⟨.start, .reading, none, .stopped⟩
            inputs := t.inputs
            now := 0
            inReset := false
            pending := s.pending }

/-- RESET_HELD: the bus and HOLD are released at once, a gate pulse and a REFUSE pulse end, DIV is low, an open
round is dropped with no commit and no forfeit, the wires of the profile memory are released and every lamp is dark
(R30, R85, R101, R131, R132, R136, R182). The qualifiers stand as they are, and run on in reset (R182). While
RESETN is low no command but RESET and RESET_HELD changes a block (R136, R182; log 5): what the others bring is the
qualified level of a pin and the level on HOLD, which are read at the end of the reset (R182; logs 4 and 15). That
every other field waits for the end of the reset is the model's choice (log 17). -/
def Obligations.ResetHeldReleasesTheOutputs : Prop :=
  ∀ (s : State),
    (∃ t, exec .resetHeld s = .next t ∧ t.inputs = s.inputs ∧
      t.inReset = true ∧ t.lbi = { s.lbi with tx := none } ∧ t.clu = .atRest ∧
      t.rol = { s.rol with sending := none } ∧ t.holdDrive = false ∧ t.gateOutput = false ∧
      t.drc.diverter = .a ∧ t.lampRun = false ∧ t.lampAttn = false ∧ t.lampStop = false ∧
      t.lampFull .a = false ∧ t.lampFull .b = false ∧ t.lampRefuse = false ∧ t.readsMemory = false ∧
      t.drc.claims = s.drc.claims ∧ t.drc.falling = s.drc.falling ∧ t.crm = s.crm ∧ t.rct = s.rct ∧
      t.mdc = s.mdc ∧ t.ptr.p = s.ptr.p ∧ t.ptr.h = s.ptr.h ∧ t.now = s.now ∧ t.pending = s.pending) ∧
    (s.inReset = true → ∀ (c : Instr), c.wellFormed = true → (∀ powerOn, c ≠ .reset powerOn) →
      c ≠ .resetHeld → exec c s = .next (match c with
        | .beamBlocked x => s.told (.beam x) true
        | .beamClear x => s.told (.beam x) false
        | .cradlePresent x => s.told (.sensor x) true
        | .cradleAbsent x => s.told (.sensor x) false
        | .holdLevelChange marked => s.setPtr { s.ptr with holdOthers := marked }
        | _ => s))

/-- An image that passes the checks gives a profile and recipes with the values at the bytes of 12.4, within the
ranges the spec accepts: each timing field as read where it is in its range, at the lower bound below it and at the
upper bound above it; each recipe with its band translated and its record OPEN and uncounted (R17 to R19, R157,
R158, R180). -/
def Obligations.AcceptedImageIsInRange : Prop :=
  ∀ (img : List Byte), readFault (.image img) = none →
    let f := profileOf img
    let rs := recipesOf img
    (imageCheck img).toNat = wordAt img 62 ∧ byteAt img 0 = 1 ∧
    f.number.val = byteAt img 1 ∧ f.d = wordAt img 2 ∧ 4 ≤ f.d ∧ f.d ≤ 2000 ∧
    f.span = wordAt img 4 ∧ f.d ≤ f.span ∧ f.span ≤ 2000 ∧
    f.holdWhenBlocked = (byteAt img 7).testBit 0 ∧ f.holdOnStop = (byteAt img 7).testBit 1 ∧
    f.reoffer = (byteAt img 7).testBit 2 ∧
    f.tmin = (if byteAt img 8 < 10 then 10 else if 100 < byteAt img 8 then 100 else byteAt img 8) ∧
    f.tmax = (if wordAt img 9 < f.tmin + 20 then f.tmin + 20
      else if 300 < wordAt img 9 then 300 else wordAt img 9) ∧
    f.removalLimit = (if wordAt img 11 < 10 then 10 else if 600 < wordAt img 11 then 600
      else wordAt img 11) ∧
    10 ≤ f.tmin ∧ f.tmin ≤ 100 ∧ f.tmin + 20 ≤ f.tmax ∧ f.tmax ≤ 300 ∧
    10 ≤ f.removalLimit ∧ f.removalLimit ≤ 600 ∧
    rs.length = byteAt img 6 ∧ 1 ≤ rs.length ∧ rs.length ≤ 4 ∧
    ∀ i r, rs[i]? = some r →
      let low := wordAt img (14 + 12 * i)
      let high := wordAt img (16 + 12 * i)
      let bits := byteAt img (19 + 12 * i)
      r.low = (if 32768 ≤ low then 10 * (low - 32768) else low) ∧
      r.high = (if 32768 ≤ high then 10 * (high - 32768) + 9 else high) ∧
      r.low ≤ 2047 ∧ 1 ≤ r.high ∧ r.high ≤ 2049 ∧ r.low ≤ r.high ∧
      (∀ g, g < 8 → r.gradeMask.getLsbD g = (byteAt img (18 + 12 * i)).testBit g) ∧
      r.acceptHead = bits.testBit 0 ∧ r.acceptBent = bits.testBit 1 ∧ r.fallback = bits.testBit 2 ∧
      r.n = byteAt img (20 + 12 * i) ∧ 1 ≤ r.n ∧ r.n ≤ 60 ∧
      r.s = byteAt img (21 + 12 * i) ∧ (r.s ≤ 250 ∨ r.s = 255) ∧
      r.q = wordAt img (22 + 12 * i) ∧ r.q ≤ 4095 ∧
      r.exhausted = false ∧ r.made = 0 ∧ r.inProgress = 0

/-- PROFILE_READ_END with a good profile, at device 1010011 with its first 64 bytes acknowledged, from byte 0 on
(R155, R182): the read is DONE, the profile is held, the Recipe Table is loaded, the
JOIN joins the notice queue with the accepted values, the join timer waits for it, and the station goes to
JOINING; drops and cradles are unchanged (R17, R158, R172). -/
def Obligations.GoodProfileIsAccepted : Prop :=
  ∀ (s : State) (img : List Byte) (more : List (Option Byte)), s.inReset = false →
    s.mdc.profileRead = .reading → img.length = 64 →
    readFault (.image img) = none → s.mdc.mode = .start → s.crm.blocked = false →
    s.lbi.notices.length < 8 →
    ∃ t, exec (.profileReadEnd ⟨0b1010011, img.map some ++ more⟩) s = .next t ∧
      t.mdc = ⟨.joining, .done, some (profileOf img), .waiting⟩ ∧
      t.rct = recipesOf img ∧ t.number = some (Fin.ofNat 64 (byteAt img 1)) ∧
      t.lbi.notices = s.lbi.notices ++ [.join
        { distance := wordAt img 2, span := wordAt img 4, recipeCount := byteAt img 6
          fallback := (recipesOf img).any (·.fallback)
          holdWhenBlocked := (byteAt img 7).testBit 0, holdOnStop := (byteAt img 7).testBit 1
          reoffer := (byteAt img 7).testBit 2 }] ∧
      t.drc = s.drc ∧ t.crm = s.crm ∧ t.alc = s.alc ∧ t.ptr = s.ptr

/-- PROFILE_READ_END with a failed read or a faulty image: the read is DONE, the profile stays none, the Recipe
Table stays empty, and PROFILE-BAD with the fault's parameter stops the station with saved mode START, or
waits in the level-2 pending set in STOP; a read whose address or one of whose 64 bytes is not acknowledged gives
parameter 16 (R155, R156, R181, R182). -/
def Obligations.BadProfileStopsTheStation : Prop :=
  ∀ (s : State) (m : SerialMemory) (param : Nat), s.inReset = false → s.mdc.profileRead = .reading →
    s.mdc.profile = none → s.rct = [] → readFault m.read = some param →
    (m.address ≠ 0b1010011 ∨ (∃ i < 64, m.bytes.getD i none = none) → param = 16) ∧
    ∃ t, exec (.profileReadEnd m) s = .next t ∧
      t.mdc.profileRead = .done ∧ t.mdc.profile = none ∧ t.rct = [] ∧ t.number = none ∧
      t.ptr.holdStop = s.ptr.holdStop ∧
      (s.mdc.mode = .start → s.level ≠ .stop →
        t.alc.current = some ⟨.profileBad, BitVec.ofNat 12 param, s.stamp⟩ ∧ t.mdc.mode = .stopped ∧
          t.alc.savedMode = some .start) ∧
      (s.level = .stop → ⟨.profileBad, BitVec.ofNat 12 param, s.stamp⟩ ∈ t.alc.pend2 ∧
        t.alc.current = s.alc.current)

/-- JOIN_TIMER_END: 400 ms after the JOIN was sent the timer stops and a JOINING station goes to ACTIVE, or on
to IDLE when every recipe is EXHAUSTED and no cradle is building; a STOPPED one with saved mode JOINING gets the
saved mode ACTIVE and stays STOPPED (R159, R162, R165). That the time base moves on to the due time is the
model's own (log 2). -/
def Obligations.JoinTimerEndsJoining : Prop :=
  ∀ (s : State) (since : Nat), s.inReset = false → s.mdc.joinTimer = .running since →
    (s.mdc.mode = .joining → ∃ t, exec .joinTimerEnd s = .next t ∧
      t.mdc = { s.mdc with
        joinTimer := .stopped
        mode := if allExhausted s.rct = true ∧ s.someBuilding = false then .idle else .active } ∧
      t.now = max s.now (since + 100000) ∧ t.drc = s.drc ∧ t.rct = s.rct ∧ t.ptr.p = s.ptr.p ∧
      t.ptr.h = s.ptr.h ∧ t.crm.cradleA = s.crm.cradleA ∧ t.crm.cradleB = s.crm.cradleB) ∧
    (s.mdc.mode = .stopped → s.alc.savedMode = some .joining →
      exec .joinTimerEnd s = .next (((s.setNow (max s.now (since + 100000))).setMdc
        { s.mdc with joinTimer := .stopped }).setAlc { s.alc with savedMode := some .active }))

/-- A good JOIN or CONFLICT of another device with the station's own number raises DUPLICATE, which stops the
station or waits in the level-2 pending set; a JOIN first queues a CONFLICT, which a full queue discards with the
lost flag set, NOTICE-LOST standing when the flag was clear, and DUPLICATE is raised all the same; a CONFLICT queues
nothing of the kind (R150, R160). -/
def Obligations.OwnNumberHeardIsDuplicate : Prop :=
  ∀ (s : State) (n : StationNo), s.inReset = false → s.receiving = true → s.number = some n →
    (∃ t, exec (.joinReceived n) s = .next t ∧
      (s.lbi.notices.length < 8 → t.lbi.notices[s.lbi.notices.length]? = some .conflict) ∧
      (8 ≤ s.lbi.notices.length → t.lbi.notices = s.lbi.notices ∧ t.lbi.lost = true ∧
        (s.lbi.lost = false → ⟨.noticeLost, 0, s.stamp⟩ ∈ t.standing)) ∧
      t.drc.falling = s.drc.falling ∧ t.crm.cradleA.stack = s.crm.cradleA.stack ∧
      t.crm.cradleB.stack = s.crm.cradleB.stack ∧ t.ptr.p = s.ptr.p ∧ t.ptr.h = s.ptr.h ∧
      (s.level ≠ .stop → t.mdc.mode = .stopped ∧
        t.alc.current = some ⟨.duplicate, BitVec.ofNat 12 n.val, s.stamp⟩ ∧ t.drc.claims = []) ∧
      (s.level = .stop → ⟨.duplicate, BitVec.ofNat 12 n.val, s.stamp⟩ ∈ t.alc.pend2 ∧ t.mdc = s.mdc)) ∧
    (∃ t, exec (.conflictReceived n) s = .next t ∧
      (∀ m ∈ t.lbi.notices, m ∈ s.lbi.notices ∨ m = .alert) ∧
      t.drc.falling = s.drc.falling ∧ t.crm.cradleA.stack = s.crm.cradleA.stack ∧
      t.crm.cradleB.stack = s.crm.cradleB.stack ∧ t.ptr.p = s.ptr.p ∧ t.ptr.h = s.ptr.h ∧
      (s.level ≠ .stop → t.mdc.mode = .stopped ∧
        t.alc.current = some ⟨.duplicate, BitVec.ofNat 12 n.val, s.stamp⟩ ∧ t.drc.claims = []) ∧
      (s.level = .stop → ⟨.duplicate, BitVec.ofNat 12 n.val, s.stamp⟩ ∈ t.alc.pend2 ∧ t.mdc = s.mdc))

/-! ## Cradles, beams and drops -/

/-- The ordinary sensor changes: present takes ABSENT to EMPTY (R64); absent takes EMPTY to ABSENT (R64), STALE
to ABSENT, ending STALE-CRADLE with the last one (R63), and COMPLETE to ABSENT with its timer stopped and its
record cleared (R72). The other cradle, the claims and the falling list and the recipes are unchanged. -/
def Obligations.CradleSensorChanges : Prop :=
  ∀ (s : State) (c : Cradle), s.inReset = false →
    ((s.cradle c).state = .absent → ∃ t, exec (.cradlePresent c) s = .next t ∧
      t.cradle c = { s.cradle c with state := .empty } ∧
      t.cradle (otherCradle c) = s.cradle (otherCradle c) ∧ t.drc = s.drc ∧ t.rct = s.rct ∧
      t.ptr.p = s.ptr.p ∧ t.ptr.h = s.ptr.h ∧
      (s.idleNow = false → t.mdc = s.mdc ∧ t.clu = s.clu ∧ t.rol = s.rol)) ∧
    ((s.cradle c).state = .empty ∨ (s.cradle c).state = .stale ∨ (s.cradle c).state = .complete →
      ∃ t, exec (.cradleAbsent c) s = .next t ∧
        t.cradle c = (if (s.cradle c).state = .complete then
          ⟨.absent, none, [], (s.cradle c).committed, none, none, none⟩
        else { s.cradle c with state := .absent }) ∧
        t.cradle (otherCradle c) = s.cradle (otherCradle c) ∧ t.drc = s.drc ∧ t.rct = s.rct ∧
        t.ptr.p = s.ptr.p ∧ t.ptr.h = s.ptr.h ∧
        (s.idleNow = false → t.mdc = s.mdc ∧ t.clu = s.clu ∧ t.rol = s.rol) ∧
        ((s.cradle c).state = .stale → (s.cradle (otherCradle c)).state ≠ .stale →
          AlertsAgree s → t.places .staleCradle = 0))

/-- A premature removal forfeits the cradle's pending entries and discards its falling ones, abandons the
recipe, reports a non-empty stack in a BUNCH notice with completion ABANDONED, clears the record and raises
PREMATURE-REMOVAL; the miss run and the other cradle are unchanged (R27, R73, R96, R97, R167 to R169). When it takes
the last building cradle of a station that R162 or R163 sends to IDLE, the station goes there, and a won round's
stem is forfeited after the others (R45). -/
def Obligations.PrematureRemoval : Prop :=
  ∀ (s : State) (c : Cradle) (i : Nat) (x : Recipe), s.inReset = false →
    ((s.cradle c).state = .filling ∨ (s.cradle c).state = .closing) →
    (s.cradle c).recipe = some i → s.rct[i]? = some x →
    ∃ t, exec (.cradleAbsent c) s = .next t ∧
      t.cradle c = { s.cradle c with
        state := .absent, recipe := none, stack := [], committed := 0, envelope := none } ∧
      t.cradle (otherCradle c) = s.cradle (otherCradle c) ∧
      t.drc = { s.drc with
        claims := s.drc.claims.filter (·.cradle ≠ c)
        falling := s.drc.falling.filter (·.claim.cradle ≠ c) } ∧
      t.rct[i]? = some { x with inProgress := x.inProgress - 1 } ∧
      (∀ j, j ≠ i → t.rct[j]? = s.rct[j]?) ∧
      t.mdc = { s.mdc with mode :=
        if t.someBuilding = false ∧
          (s.mdc.mode = .active ∧ allExhausted t.rct = true ∨ s.mdc.mode = .draining) then .idle
        else s.mdc.mode } ∧
      t.rol = (s.reofferAll ((s.drc.claims.filter (·.cradle = c)).map (·.stem) ++
        if t.mdc.mode = s.mdc.mode then [] else s.wonStems)).rol ∧
      ((s.cradle c).stack ≠ [] → s.lbi.notices.length < 8 →
        ∃ b, t.lbi.notices[s.lbi.notices.length]? = some (.bunch b) ∧ b.cradle = c ∧ b.recipe = i ∧
          b.completion = .abandoned ∧ b.count = (s.cradle c).stack.length ∧ b.made = x.made ∧
          b.reoffered = ((s.cradle c).stack.filter (·.kind = .reclaim)).length ∧
          b.unverified = ((s.cradle c).stack.filter (·.verified = false)).length ∧
          b.mean = meanLength ((s.cradle c).stack.map (·.length.val))) ∧
      ⟨.prematureRemoval, cradleParam c, s.stamp⟩ ∈ t.standing ∧ t.ptr.p = s.ptr.p ∧ t.ptr.h = s.ptr.h

/-- BEAM_BLOCKED with an OPEN falling entry for the beam's cradle: the oldest one has LANDED. It leaves the
list, its stem goes onto the stack verified, the committed count goes down by one and the miss run is 0
(R88, R89, R67). The Nth landing completes the bunch FULL: the recipe's made count goes up by one and, at its quota,
the recipe is EXHAUSTED with a QUOTA notice ahead of the BUNCH notice; the removal timer starts (R26, R70, R170).
The station goes to IDLE when no cradle is building and R162 or R163 asks for it, which forfeits a won round's stem
(R45). -/
def Obligations.BeamBlockedLandsTheOldestOpenStem : Prop :=
  ∀ (s : State) (c : Cradle) (before after : List Falling) (f : Falling) (i : Nat) (x : Recipe),
    s.inReset = false → (s.beam c).blocked = false → s.drc.falling = before ++ f :: after →
    f.claim.cradle = c → f.window = .opened →
    (∀ g ∈ before, g.claim.cradle ≠ c ∨ g.window = .waiting) →
    (s.cradle c).recipe = some i → s.rct[i]? = some x →
    let made := if x.q = 0 then min 4095 (x.made + 1) else x.made + 1
    let spent := x.exhausted = false ∧ x.q ≠ 0 ∧ made = x.q
    let waiting := s.lbi.notices.length
    ∃ t, exec (.beamBlocked c) s = .next t ∧
      t.drc = { (s.setBeam c { s.beam c with blocked := true, timer := some s.now }).drc with
        falling := before ++ after, missRun := 0 } ∧ t.ptr.p = s.ptr.p ∧ t.ptr.h = s.ptr.h ∧
      (t.cradle c).stack =
        ⟨f.claim.stem.tag, f.claim.stem.length, f.claim.stem.grade, f.claim.kind, true⟩
          :: (s.cradle c).stack ∧
      (t.cradle c).committed = (s.cradle c).committed - 1 ∧
      (t.cradle c).envelope = (s.cradle c).envelope ∧
      t.cradle (otherCradle c) = s.cradle (otherCradle c) ∧
      t.mdc = { s.mdc with mode :=
        if t.someBuilding = false ∧
          (s.mdc.mode = .active ∧ allExhausted t.rct = true ∨ s.mdc.mode = .draining) then .idle
        else s.mdc.mode } ∧
      t.rol = (if t.mdc.mode = s.mdc.mode then s else s.reofferAll s.wonStems).rol ∧
      (∀ j, j ≠ i → t.rct[j]? = s.rct[j]?) ∧
      ((s.cradle c).stack.length + 1 ≠ x.n → (t.cradle c).state = (s.cradle c).state ∧ t.rct = s.rct) ∧
      ((s.cradle c).stack.length + 1 = x.n →
        (t.cradle c).state = .complete ∧ (t.cradle c).completion = some .full ∧
        (t.cradle c).removal = some s.now ∧
        t.rct[i]? = some { x with
          inProgress := x.inProgress - 1
          made := made
          exhausted := x.exhausted || decide spent } ∧
        (spent → waiting < 8 → t.lbi.notices[waiting]? = some (.quota i made)) ∧
        ((if spent then waiting < 7 else waiting < 8) →
          ∃ b, t.lbi.notices[if spent then waiting + 1 else waiting]? = some (.bunch b) ∧
            b.cradle = c ∧ b.recipe = i ∧ b.completion = .full ∧ b.count = x.n ∧
            b.mean = meanLength ((t.cradle c).stack.map (·.length.val)) ∧ b.made = made))

/-- BEAM_BLOCKED with no OPEN falling entry for the beam's cradle is stray: STRAY stands with the cradle as
parameter, the beam's timer starts, and the falling list, the cradles and the miss run are unchanged (R90). Its
premises on BLOCKED and on the test for IDLE hold in every sound state (EveryStepKeepsTheTracker). -/
def Obligations.StrayBreakChangesNothingElse : Prop :=
  ∀ (s : State) (c : Cradle), s.inReset = false → (s.beam c).blocked = false →
    s.crm.blocked = s.blockedNow → s.idleNow = false →
    (∀ f ∈ s.drc.falling, f.claim.cradle ≠ c ∨ f.window = .waiting) →
    ∃ t, exec (.beamBlocked c) s = .next t ∧
      ⟨.stray, cradleParam c, s.stamp⟩ ∈ t.standing ∧
      t.drc = (s.setBeam c { s.beam c with blocked := true, timer := some s.now }).drc ∧
      t.crm = s.crm ∧ t.rct = s.rct ∧ t.rol = s.rol ∧ t.clu = s.clu ∧ t.mdc = s.mdc ∧ t.ptr = s.ptr

/-- The ends of what runs at the drop outputs, the beams, the lamps and the cradles: tmin after its fire the oldest
WAITING entry is OPEN (R87); a gate pulse ends 15 ms after the fire (R85); a beam that clears stops its timer and
takes back "GATE-STUCK raised" (R88); the REFUSE pulse ends 200 ms after the refusal (R132); a removal timer at the
removal limit raises REMOVAL-OVERDUE and counts on from 0 (R71). A beam, a gate pulse and a REFUSE pulse need no
accepted profile (R81). Nothing else changes, but for the alert records
and notices of the raise. That the time base moves on to the due time is the model's own (log 2), and so is that
BEAM_CLEAR tells the beam's qualifier (log 15). -/
def Obligations.TimersAndBeamsRunOut : Prop :=
  ∀ (s : State) (c : Cradle) (p : Profile) (before after : List Falling) (f : Falling) (since : Nat),
    s.inReset = false →
    (s.mdc.profile = some p → s.drc.falling = before ++ f :: after → f.window = .waiting →
      (∀ g ∈ before, g.window = .opened) →
      exec .windowOpen s = .next ((s.setNow (max s.now (f.fireTime + p.tmin * 250))).setDrc
        { s.drc with falling := before ++ { f with window := .opened } :: after })) ∧
    (s.drc.gate = some since →
      exec .gatePulseEnd s =
        .next ((s.setNow (max s.now (since + 3750))).setDrc { s.drc with gate := none })) ∧
    ((s.beam c).blocked = true →
      exec (.beamClear c) s = .next ((s.told (.beam c) false).setBeam c ⟨false, none, false⟩)) ∧
    (s.alc.refuse = some since →
      exec .refusePulseEnd s =
        .next ((s.setNow (max s.now (since + 50000))).setAlc { s.alc with refuse := none })) ∧
    (s.mdc.profile = some p → (s.cradle c).removal = some since →
      ∃ t, exec (.removalOverdue c) s = .next t ∧
        t.cradle c = { s.cradle c with removal := some (since + p.removalLimit * 250000) } ∧
        t.now = max s.now (since + p.removalLimit * 250000) ∧
        ⟨.removalOverdue, cradleParam c, s.stamp⟩ ∈ t.standing ∧
        t.cradle (otherCradle c) = s.cradle (otherCradle c) ∧ t.drc = s.drc ∧ t.rct = s.rct ∧
        t.mdc = s.mdc ∧ t.ptr = s.ptr ∧ t.clu = s.clu ∧ t.rol = s.rol)

/-- MISS: tmax after its fire the oldest entry, its window open, resolves MISS: it leaves the list, MISS stands
with its tag, the miss run counts it, and its stem is un-committed (R68, R92); the miss that brings the run to 3
also raises MISS-RUN, which stops the station or waits in the level-2 pending set (R93). A miss that empties the
last building cradle takes a station that R162 or R163 asks it of to IDLE at that moment, which forfeits a won
round's stem (R45); that MISS-RUN then saves IDLE, the test coming before the raise, is log 11. That the time base
moves on to the due time is the model's own (log 2). -/
def Obligations.MissedStemIsUncommittedAndCounted : Prop :=
  ∀ (s : State) (p : Profile) (f : Falling) (rest : List Falling), s.inReset = false →
    s.mdc.profile = some p → s.drc.falling = f :: rest → f.window = .opened →
    let c := f.claim.cradle
    let mode : Mode :=
      if (s.cradle (otherCradle c)).building = false ∧
          ((s.cradle c).building = false ∨ (s.cradle c).stack = [] ∧ (s.cradle c).committed ≤ 1) ∧
          (s.mdc.mode = .active ∧ allExhausted s.rct = true ∨ s.mdc.mode = .draining) then .idle
      else s.mdc.mode
    ∃ t, exec .miss s = .next t ∧
      t.drc.falling = rest ∧ t.now = max s.now (f.fireTime + p.tmax * 250) ∧
      t.drc.missRun = min 255 (s.drc.missRun + 1) ∧ t.ptr.p = s.ptr.p ∧ t.ptr.h = s.ptr.h ∧
      ⟨.miss, f.claim.stem.tag, s.stamp⟩ ∈ t.standing ∧
      (t.cradle c).stack = (s.cradle c).stack ∧
      (s.drc.missRun ≠ 2 → t.mdc = { s.mdc with mode := mode } ∧
        t.rol = (if mode = s.mdc.mode then s else s.reofferAll s.wonStems).rol ∧
        (t.cradle c).committed = (s.cradle c).committed - 1 ∧
        t.drc = { s.drc with falling := rest, missRun := min 255 (s.drc.missRun + 1) } ∧
        t.cradle (otherCradle c) = s.cradle (otherCradle c)) ∧
      (s.drc.missRun = 2 → s.level ≠ .stop →
        t.alc.current = some ⟨.missRun, cradleParam c, s.stamp⟩ ∧ t.mdc.mode = .stopped ∧
        t.alc.savedMode = some mode ∧ t.drc.claims = [] ∧ t.drc.gateLock = true) ∧
      (s.drc.missRun = 2 → s.level = .stop →
        ⟨.missRun, cradleParam c, s.stamp⟩ ∈ t.alc.pend2)

/-- GATE_STUCK stops the station, once for a blocked spell (R94), and everything R121 lists comes about: the
level-1 record is saved (but a BLOCKED whose condition the stop ends, R120), the cause is current with its ALERT
waiting, the mode is saved and STOPPED, the stem of a won round (R45) and every pending entry go to the Re-offer
List, in that order, and the gate is locked (R98), the hold reason STOP follows the policy, the open round is given
up as R45 gives, the falling list, the stacks and the recipes' made counts stay. In STOP the cause waits in the
level-2 pending set (R122). That the time base moves on to the due time is the model's own (log 2). -/
def Obligations.GateStuckEntersStop : Prop :=
  ∀ (s : State) (c : Cradle) (since : Nat), s.inReset = false → (s.beam c).blocked = true →
    (s.beam c).stuckRaised = false → (s.beam c).timer = some since →
    ∃ t, exec (.gateStuck c) s = .next t ∧
      t.beam c = ⟨true, none, true⟩ ∧ t.now = max s.now (since + 500000) ∧
      t.drc.falling = s.drc.falling ∧ t.crm.cradleA.stack = s.crm.cradleA.stack ∧
      t.crm.cradleB.stack = s.crm.cradleB.stack ∧ t.rct.map (·.made) = s.rct.map (·.made) ∧
      t.drc.missRun = s.drc.missRun ∧ t.drc.gate = s.drc.gate ∧ t.ptr.p = s.ptr.p ∧ t.ptr.h = s.ptr.h ∧
      (s.level ≠ .stop →
        t.alc.current = some ⟨.gateStuck, cradleParam c, s.stamp⟩ ∧
        (s.crm.blocked = false → t.alc.saved = s.alc.current) ∧
        (s.crm.blocked = true → s.blockedNow = true →
          t.alc.saved = s.alc.current.filter (fun r => r.cause ≠ .blocked)) ∧
        (s.lbi.notices.length < 8 → .alert ∈ t.lbi.notices) ∧
        t.alc.savedMode = some s.mdc.mode ∧ t.mdc = { s.mdc with mode := .stopped } ∧
        t.drc.claims = [] ∧ t.drc.gateLock = true ∧
        t.ptr.holdStop = (s.ptr.holdStop || s.policy (·.holdOnStop)) ∧
        t.crm.cradleA.committed = s.crm.cradleA.committed - s.claimCount .a ∧
        t.crm.cradleB.committed = s.crm.cradleB.committed - s.claimCount .b ∧
        t.rol = (s.reofferAll (s.wonStems ++ s.drc.claims.map (·.stem))).rol ∧
        t.clu = (match s.clu.round with
          | .idle | .lost => s.clu
          | .bidding => if s.drivingClaim then .atRest else { s.clu with round := .lost, gaveUp := true }
          | .won => .atRest)) ∧
      (s.level = .stop →
        ⟨.gateStuck, cradleParam c, s.stamp⟩ ∈ t.alc.pend2 ∧ t.alc.current = s.alc.current ∧
        t.alc.saved = s.alc.saved ∧ t.mdc = s.mdc ∧ t.drc.claims = s.drc.claims ∧ t.crm = s.crm)

/-! ## The station panel -/

/-- PULL pops the top entry of a FILLING or CLOSING cradle and recomputes the envelope over what is left: a
CLOSING cradle goes back to FILLING, and k = 0 unbinds the cradle with the unbind report (R25, R60, R69, R75).
The committed count, the other cradle and the drops are unchanged, and no lamp pulses. The station goes to IDLE when
no cradle is building and R162 or R163 asks for it. -/
def Obligations.PullPopsTheTopStem : Prop :=
  ∀ (s : State) (c : Cradle) (top : Landed) (under : List Landed) (i : Nat) (x : Recipe),
    s.inReset = false → (s.qualifier (.pull c)).held = false →
    ((s.cradle c).state = .filling ∨ (s.cradle c).state = .closing) → (s.cradle c).stack = top :: under →
    (s.cradle c).recipe = some i → s.rct[i]? = some x →
    ∃ t, exec (.pull c) s = .next t ∧
      t.drc = s.drc ∧ t.alc.refuse = s.alc.refuse ∧ t.ptr.p = s.ptr.p ∧ t.ptr.h = s.ptr.h ∧
      t.cradle (otherCradle c) = s.cradle (otherCradle c) ∧
      t.mdc = { s.mdc with mode :=
        if t.someBuilding = false ∧
          (s.mdc.mode = .active ∧ allExhausted t.rct = true ∨ s.mdc.mode = .draining) then .idle
        else s.mdc.mode } ∧
      t.rol = (if t.mdc.mode = s.mdc.mode then s else s.reofferAll s.wonStems).rol ∧
      (under.length + (s.cradle c).committed ≠ 0 →
        t.cradle c = { s.cradle c with
          state := .filling, stack := under
          envelope := envelopeOf (under.map (·.length.val) ++ s.committedLengths c) } ∧
        t.rct = s.rct) ∧
      (under.length + (s.cradle c).committed = 0 →
        t.cradle c = { s.cradle c with state := .empty, stack := [], recipe := none, envelope := none } ∧
        t.rct[i]? = some { x with inProgress := x.inProgress - 1 })

/-- FINISH with the key on, a stack and no falling entry for the cradle: its pending entries go to the Re-offer
List, the envelope spans the stack, and the cradle is COMPLETE, SHORT, with the completion report, a BUNCH notice
and the removal timer (R70, R76, R97). The recipe's made count goes up by one and, at its quota, the recipe is
EXHAUSTED with a QUOTA notice ahead of the BUNCH notice (R26, R170); the station goes to IDLE when no cradle is
building and R162 or R163 asks for it, which forfeits a won round's stem after the others (R45). -/
def Obligations.FinishClosesTheBunchShort : Prop :=
  ∀ (s : State) (c : Cradle) (i : Nat) (x : Recipe), s.inReset = false →
    (s.qualifier (.finish c)).held = false →
    ((s.cradle c).state = .filling ∨ (s.cradle c).state = .closing) → (s.cradle c).stack ≠ [] →
    (∀ f ∈ s.drc.falling, f.claim.cradle ≠ c) → (s.cradle c).recipe = some i → s.rct[i]? = some x →
    let made := if x.q = 0 then min 4095 (x.made + 1) else x.made + 1
    let spent := x.exhausted = false ∧ x.q ≠ 0 ∧ made = x.q
    let waiting := s.lbi.notices.length
    ∃ t, exec (.finish c true) s = .next t ∧
      t.cradle c = { s.cradle c with
        state := .complete, completion := some .short, committed := 0, removal := some s.now
        envelope := envelopeOf ((s.cradle c).stack.map (·.length.val)) } ∧
      t.drc = { s.drc with claims := s.drc.claims.filter (·.cradle ≠ c) } ∧
      t.cradle (otherCradle c) = s.cradle (otherCradle c) ∧ t.alc.refuse = s.alc.refuse ∧
      t.ptr.p = s.ptr.p ∧ t.ptr.h = s.ptr.h ∧
      t.rct[i]? = some { x with
        inProgress := x.inProgress - 1
        made := made
        exhausted := x.exhausted || decide spent } ∧
      (∀ j, j ≠ i → t.rct[j]? = s.rct[j]?) ∧
      t.mdc = { s.mdc with mode :=
        if t.someBuilding = false ∧
          (s.mdc.mode = .active ∧ allExhausted t.rct = true ∨ s.mdc.mode = .draining) then .idle
        else s.mdc.mode } ∧
      t.rol = (s.reofferAll ((s.drc.claims.filter (·.cradle = c)).map (·.stem) ++
        if t.mdc.mode = s.mdc.mode then [] else s.wonStems)).rol ∧
      (spent → waiting < 8 → t.lbi.notices[waiting]? = some (.quota i made)) ∧
      ((if spent then waiting < 7 else waiting < 8) →
        ∃ b, t.lbi.notices[if spent then waiting + 1 else waiting]? = some (.bunch b) ∧
          b.cradle = c ∧ b.recipe = i ∧ b.completion = .short ∧ b.count = (s.cradle c).stack.length ∧
          b.made = made)

/-- A refused panel request changes nothing but the REFUSE pulse, which starts, or starts again (R125, R132):
PULL and FINISH outside their tests (R75, R76), CLEAR with no record, with a condition record, without the key
in STOP, on DUPLICATE or PROFILE-BAD, or on GATE-STUCK with its beam blocked (R126, R127), DRAIN outside ACTIVE
(R163), RESUME outside DRAINING and outside IDLE with a recipe that can bind (R164). A button held down since before
the end of a reset makes no request at all, and not even the lamp pulses (R182). -/
def Obligations.RefusedRequestsOnlyPulseRefuse : Prop :=
  ∀ (s : State) (c : Cradle) (key : Bool), s.inReset = false →
    let refused : Host.Outcome State Fault Refusal := .next (s.setAlc { s.alc with refuse := some s.now })
    let building := (s.cradle c).state = .filling ∨ (s.cradle c).state = .closing
    let held := fun p => (s.qualifier p).held = true
    (held (.pull c) → exec (.pull c) s = .next s) ∧ (held (.finish c) → exec (.finish c key) s = .next s) ∧
    (held .clear → exec (.clear key) s = .next s) ∧ (held .cancel → exec .cancel s = .next s) ∧
    (held .drain → exec .drain s = .next s) ∧ (held .resume → exec .resume s = .next s) ∧
    (¬ held (.pull c) → ¬ building ∨ (s.cradle c).stack = [] → exec (.pull c) s = refused) ∧
    (¬ held (.finish c) →
      key = false ∨ ¬ building ∨ (s.cradle c).stack = [] ∨ (∃ f ∈ s.drc.falling, f.claim.cradle = c) →
      exec (.finish c key) s = refused) ∧
    (¬ held .clear → s.alc.current = none → exec (.clear key) s = refused) ∧
    (¬ held .clear → ∀ r ∈ s.alc.current,
      r.cause = .staleCradle ∨ r.cause = .blocked ∨ r.cause = .gaugeSilent ∨
        r.cause.isStop = true ∧ key = false ∨ r.cause = .duplicate ∨ r.cause = .profileBad ∨
        r.cause = .gateStuck ∧ r.param = cradleParam c ∧ (s.beam c).blocked = true →
      exec (.clear key) s = refused) ∧
    (¬ held .drain → s.mdc.mode ≠ .active → exec .drain s = refused) ∧
    (¬ held .resume → s.mdc.mode ≠ .draining → (s.mdc.mode ≠ .idle ∨ s.rct.any (·.canBind) = false) →
      exec .resume s = refused)

/-- CLEAR in ATTN on an event record needs no key: the record retires, the lowest level-1 code becomes current,
or the level falls to NONE, and the ALERT notice is queued or stands for the change; nothing else but the notice
side changes (R119, R126, R133). -/
def Obligations.ClearRetiresAnEventRecord : Prop :=
  ∀ (s : State) (r : Record) (key : Bool), s.inReset = false →
    (s.qualifier .clear).held = false → s.alc.current = some r →
    r.cause.isStop = false → r.cause.isCondition = false → s.lbi.notices.length < 8 →
    ∃ t, exec (.clear key) s = .next t ∧
      t.alc = { s.alc with current := s.alc.pend1.head?, pend1 := s.alc.pend1.tail } ∧
      .alert ∈ t.lbi.notices ∧
      (.alert ∈ s.lbi.notices → t.lbi.notices = s.lbi.notices ∧
        t.lbi.resend = (s.lbi.resend || s.drivingAlert)) ∧
      (.alert ∉ s.lbi.notices → t.lbi = { s.lbi with notices := s.lbi.notices ++ [.alert] }) ∧
      t.ptr = s.ptr ∧ t.drc = s.drc ∧ t.crm = s.crm ∧ t.rct = s.rct ∧ t.rol = s.rol ∧ t.clu = s.clu ∧
      t.mdc = s.mdc

/-- CLEAR in STOP with the key retires a level-2 record that may be cleared: with a level-2 code pending the
lowest becomes current and the station stays STOPPED; with none STOP ends, the saved record or the lowest level-1
code becomes current, the mode returns with the test it calls for, the gate unlocks, the miss run is 0 and the
hold reason STOP is cleared (R123, R124, R127, R162, R163, R165). -/
def Obligations.ClearWithTheKeyInStop : Prop :=
  ∀ (s : State) (r : Record) (m : Mode), s.inReset = false →
    (s.qualifier .clear).held = false → s.alc.current = some r →
    (r.cause = .missRun ∨ r.cause = .busFault ∨
      r.cause = .gateStuck ∧ (∀ c, r.param = cradleParam c → (s.beam c).blocked = false) ∧
        (∃ c, r.param = cradleParam c)) →
    s.alc.savedMode = some m → m ≠ .stopped → s.mdc.mode = .stopped → s.lbi.notices.length < 8 →
    (∀ next more, s.alc.pend2 = next :: more → ∃ t, exec (.clear true) s = .next t ∧
      t.alc = { s.alc with current := some next, pend2 := more } ∧ t.mdc = s.mdc ∧ t.drc = s.drc ∧
      t.crm = s.crm ∧ t.rct = s.rct ∧ t.rol = s.rol ∧ t.clu = s.clu ∧ t.ptr = s.ptr ∧
      .alert ∈ t.lbi.notices) ∧
    (s.alc.pend2 = [] → s.crm.blocked = false → ∃ t, exec (.clear true) s = .next t ∧
      t.alc.savedMode = none ∧ t.alc.saved = none ∧
      t.mdc.mode = (if s.someBuilding = false ∧
        (m = .active ∧ allExhausted s.rct = true ∨ m = .draining) then .idle else m) ∧
      t.drc = { s.drc with gateLock := false, missRun := 0 } ∧ t.ptr.holdStop = false ∧
      (s.alc.saved ≠ none → t.alc.current = s.alc.saved) ∧
      (s.alc.saved = none → s.alc.pend1 ≠ [] →
        t.alc.current = s.alc.pend1.head? ∧ t.alc.refuse = s.alc.refuse) ∧
      .alert ∈ t.lbi.notices ∧ t.crm.cradleA = s.crm.cradleA ∧ t.crm.cradleB = s.crm.cradleB ∧
      t.rct = s.rct ∧ t.ptr.p = s.ptr.p ∧ t.ptr.h = s.ptr.h)

/-- CANCEL removes every event code from the level-1 pending set and keeps the condition codes with their
parameters; the current and the saved record, the level-2 set, the level, the mode, the notices and the REFUSE
pulse are as they were, in every level and mode (R129). -/
def Obligations.CancelRemovesPendingEvents : Prop :=
  ∀ (s : State), s.inReset = false → (s.qualifier .cancel).held = false →
    ∃ t, exec .cancel s = .next t ∧ t = s.setAlc { s.alc with pend1 := t.alc.pend1 } ∧
      t.alc.pend1.Sublist s.alc.pend1 ∧ t.level = s.level ∧
      ∀ r ∈ s.alc.pend1,
        (r ∈ t.alc.pend1 ↔ r.cause = .staleCradle ∨ r.cause = .blocked ∨ r.cause = .gaugeSilent)

/-- DRAIN in ACTIVE takes the station to DRAINING, and on to IDLE in the same event when no cradle is building
(R163); RESUME in DRAINING, or in IDLE with a recipe that can bind, takes it to ACTIVE, or back to IDLE when every
recipe is EXHAUSTED and no cradle is building (R162, R164). A change to DRAINING leaves the claim round as it is,
and one to IDLE forfeits a won round's stem at once (R45). No lamp pulses, and drops, cradles and recipes are
unchanged. -/
def Obligations.DrainAndResumeMoveTheMode : Prop :=
  ∀ (s : State), s.inReset = false →
    ((s.qualifier .drain).held = false → s.mdc.mode = .active → ∃ t, exec .drain s = .next t ∧
      t.mdc = { s.mdc with mode := if s.someBuilding = true then .draining else .idle } ∧
      (s.someBuilding = true → t.clu = s.clu) ∧
      t.rol = (if t.mdc.mode = .idle then s.reofferAll s.wonStems else s).rol ∧
      t.alc.refuse = s.alc.refuse ∧ t.drc = s.drc ∧ t.rct = s.rct ∧ t.ptr.p = s.ptr.p ∧
      t.ptr.h = s.ptr.h ∧ t.crm.cradleA = s.crm.cradleA ∧ t.crm.cradleB = s.crm.cradleB) ∧
    ((s.qualifier .resume).held = false →
      s.mdc.mode = .draining ∨ s.mdc.mode = .idle ∧ s.rct.any (·.canBind) = true →
      ∃ t, exec .resume s = .next t ∧
        t.mdc = { s.mdc with mode :=
          if s.someBuilding = false ∧ s.rct ≠ [] ∧ s.rct.all (·.exhausted) = true then .idle
          else .active } ∧
        t.rol = (if t.mdc.mode = .idle then s.reofferAll s.wonStems else s).rol ∧
        t.alc.refuse = s.alc.refuse ∧ t.drc = s.drc ∧ t.rct = s.rct ∧ t.ptr.p = s.ptr.p ∧
        t.ptr.h = s.ptr.h ∧ t.crm.cradleA = s.crm.cradleA ∧ t.crm.cradleB = s.crm.cradleB)
end

