-- ==== Sys2Proof/Laws/State.lean ====
section
/-! SUPPORT. Reading State back after an update: for each of the thirteen updates, what each of the thirteen fields
reads. Each is true by `rfl`, so no proof unfolds a record update. -/

namespace Sys2Proof.Machine

/-! ## After setPtr -/

@[simp] theorem State.setPtr_ptr (s : State) (x : Tracker) : (s.setPtr x).ptr = x := rfl
@[simp] theorem State.setPtr_rct (s : State) (x : Tracker) : (s.setPtr x).rct = s.rct := rfl
@[simp] theorem State.setPtr_clu (s : State) (x : Tracker) : (s.setPtr x).clu = s.clu := rfl
@[simp] theorem State.setPtr_rol (s : State) (x : Tracker) : (s.setPtr x).rol = s.rol := rfl
@[simp] theorem State.setPtr_drc (s : State) (x : Tracker) : (s.setPtr x).drc = s.drc := rfl
@[simp] theorem State.setPtr_crm (s : State) (x : Tracker) : (s.setPtr x).crm = s.crm := rfl
@[simp] theorem State.setPtr_alc (s : State) (x : Tracker) : (s.setPtr x).alc = s.alc := rfl
@[simp] theorem State.setPtr_lbi (s : State) (x : Tracker) : (s.setPtr x).lbi = s.lbi := rfl
@[simp] theorem State.setPtr_mdc (s : State) (x : Tracker) : (s.setPtr x).mdc = s.mdc := rfl
@[simp] theorem State.setPtr_inputs (s : State) (x : Tracker) : (s.setPtr x).inputs = s.inputs := rfl
@[simp] theorem State.setPtr_now (s : State) (x : Tracker) : (s.setPtr x).now = s.now := rfl
@[simp] theorem State.setPtr_inReset (s : State) (x : Tracker) : (s.setPtr x).inReset = s.inReset := rfl
@[simp] theorem State.setPtr_pending (s : State) (x : Tracker) : (s.setPtr x).pending = s.pending := rfl

@[simp] theorem State.setPtr_again (s : State) (x y : Tracker) : (s.setPtr x).setPtr y = s.setPtr y := rfl
@[simp] theorem State.setPtr_same (s : State) : s.setPtr s.ptr = s := rfl

/-! ## After setRct -/

@[simp] theorem State.setRct_ptr (s : State) (x : List Recipe) : (s.setRct x).ptr = s.ptr := rfl
@[simp] theorem State.setRct_rct (s : State) (x : List Recipe) : (s.setRct x).rct = x := rfl
@[simp] theorem State.setRct_clu (s : State) (x : List Recipe) : (s.setRct x).clu = s.clu := rfl
@[simp] theorem State.setRct_rol (s : State) (x : List Recipe) : (s.setRct x).rol = s.rol := rfl
@[simp] theorem State.setRct_drc (s : State) (x : List Recipe) : (s.setRct x).drc = s.drc := rfl
@[simp] theorem State.setRct_crm (s : State) (x : List Recipe) : (s.setRct x).crm = s.crm := rfl
@[simp] theorem State.setRct_alc (s : State) (x : List Recipe) : (s.setRct x).alc = s.alc := rfl
@[simp] theorem State.setRct_lbi (s : State) (x : List Recipe) : (s.setRct x).lbi = s.lbi := rfl
@[simp] theorem State.setRct_mdc (s : State) (x : List Recipe) : (s.setRct x).mdc = s.mdc := rfl
@[simp] theorem State.setRct_inputs (s : State) (x : List Recipe) : (s.setRct x).inputs = s.inputs := rfl
@[simp] theorem State.setRct_now (s : State) (x : List Recipe) : (s.setRct x).now = s.now := rfl
@[simp] theorem State.setRct_inReset (s : State) (x : List Recipe) : (s.setRct x).inReset = s.inReset := rfl
@[simp] theorem State.setRct_pending (s : State) (x : List Recipe) : (s.setRct x).pending = s.pending := rfl

@[simp] theorem State.setRct_again (s : State) (x y : List Recipe) : (s.setRct x).setRct y = s.setRct y := rfl
@[simp] theorem State.setRct_same (s : State) : s.setRct s.rct = s := rfl

/-! ## After setClu -/

@[simp] theorem State.setClu_ptr (s : State) (x : ClaimUnit) : (s.setClu x).ptr = s.ptr := rfl
@[simp] theorem State.setClu_rct (s : State) (x : ClaimUnit) : (s.setClu x).rct = s.rct := rfl
@[simp] theorem State.setClu_clu (s : State) (x : ClaimUnit) : (s.setClu x).clu = x := rfl
@[simp] theorem State.setClu_rol (s : State) (x : ClaimUnit) : (s.setClu x).rol = s.rol := rfl
@[simp] theorem State.setClu_drc (s : State) (x : ClaimUnit) : (s.setClu x).drc = s.drc := rfl
@[simp] theorem State.setClu_crm (s : State) (x : ClaimUnit) : (s.setClu x).crm = s.crm := rfl
@[simp] theorem State.setClu_alc (s : State) (x : ClaimUnit) : (s.setClu x).alc = s.alc := rfl
@[simp] theorem State.setClu_lbi (s : State) (x : ClaimUnit) : (s.setClu x).lbi = s.lbi := rfl
@[simp] theorem State.setClu_mdc (s : State) (x : ClaimUnit) : (s.setClu x).mdc = s.mdc := rfl
@[simp] theorem State.setClu_inputs (s : State) (x : ClaimUnit) : (s.setClu x).inputs = s.inputs := rfl
@[simp] theorem State.setClu_now (s : State) (x : ClaimUnit) : (s.setClu x).now = s.now := rfl
@[simp] theorem State.setClu_inReset (s : State) (x : ClaimUnit) : (s.setClu x).inReset = s.inReset := rfl
@[simp] theorem State.setClu_pending (s : State) (x : ClaimUnit) : (s.setClu x).pending = s.pending := rfl

@[simp] theorem State.setClu_again (s : State) (x y : ClaimUnit) : (s.setClu x).setClu y = s.setClu y := rfl
@[simp] theorem State.setClu_same (s : State) : s.setClu s.clu = s := rfl

/-! ## After setRol -/

@[simp] theorem State.setRol_ptr (s : State) (x : ReofferList) : (s.setRol x).ptr = s.ptr := rfl
@[simp] theorem State.setRol_rct (s : State) (x : ReofferList) : (s.setRol x).rct = s.rct := rfl
@[simp] theorem State.setRol_clu (s : State) (x : ReofferList) : (s.setRol x).clu = s.clu := rfl
@[simp] theorem State.setRol_rol (s : State) (x : ReofferList) : (s.setRol x).rol = x := rfl
@[simp] theorem State.setRol_drc (s : State) (x : ReofferList) : (s.setRol x).drc = s.drc := rfl
@[simp] theorem State.setRol_crm (s : State) (x : ReofferList) : (s.setRol x).crm = s.crm := rfl
@[simp] theorem State.setRol_alc (s : State) (x : ReofferList) : (s.setRol x).alc = s.alc := rfl
@[simp] theorem State.setRol_lbi (s : State) (x : ReofferList) : (s.setRol x).lbi = s.lbi := rfl
@[simp] theorem State.setRol_mdc (s : State) (x : ReofferList) : (s.setRol x).mdc = s.mdc := rfl
@[simp] theorem State.setRol_inputs (s : State) (x : ReofferList) : (s.setRol x).inputs = s.inputs := rfl
@[simp] theorem State.setRol_now (s : State) (x : ReofferList) : (s.setRol x).now = s.now := rfl
@[simp] theorem State.setRol_inReset (s : State) (x : ReofferList) : (s.setRol x).inReset = s.inReset := rfl
@[simp] theorem State.setRol_pending (s : State) (x : ReofferList) : (s.setRol x).pending = s.pending := rfl

@[simp] theorem State.setRol_again (s : State) (x y : ReofferList) : (s.setRol x).setRol y = s.setRol y := rfl
@[simp] theorem State.setRol_same (s : State) : s.setRol s.rol = s := rfl

/-! ## After setDrc -/

@[simp] theorem State.setDrc_ptr (s : State) (x : DropController) : (s.setDrc x).ptr = s.ptr := rfl
@[simp] theorem State.setDrc_rct (s : State) (x : DropController) : (s.setDrc x).rct = s.rct := rfl
@[simp] theorem State.setDrc_clu (s : State) (x : DropController) : (s.setDrc x).clu = s.clu := rfl
@[simp] theorem State.setDrc_rol (s : State) (x : DropController) : (s.setDrc x).rol = s.rol := rfl
@[simp] theorem State.setDrc_drc (s : State) (x : DropController) : (s.setDrc x).drc = x := rfl
@[simp] theorem State.setDrc_crm (s : State) (x : DropController) : (s.setDrc x).crm = s.crm := rfl
@[simp] theorem State.setDrc_alc (s : State) (x : DropController) : (s.setDrc x).alc = s.alc := rfl
@[simp] theorem State.setDrc_lbi (s : State) (x : DropController) : (s.setDrc x).lbi = s.lbi := rfl
@[simp] theorem State.setDrc_mdc (s : State) (x : DropController) : (s.setDrc x).mdc = s.mdc := rfl
@[simp] theorem State.setDrc_inputs (s : State) (x : DropController) : (s.setDrc x).inputs = s.inputs := rfl
@[simp] theorem State.setDrc_now (s : State) (x : DropController) : (s.setDrc x).now = s.now := rfl
@[simp] theorem State.setDrc_inReset (s : State) (x : DropController) : (s.setDrc x).inReset = s.inReset := rfl
@[simp] theorem State.setDrc_pending (s : State) (x : DropController) : (s.setDrc x).pending = s.pending := rfl

@[simp] theorem State.setDrc_again (s : State) (x y : DropController) : (s.setDrc x).setDrc y = s.setDrc y := rfl
@[simp] theorem State.setDrc_same (s : State) : s.setDrc s.drc = s := rfl

/-! ## After setCrm -/

@[simp] theorem State.setCrm_ptr (s : State) (x : CradleManager) : (s.setCrm x).ptr = s.ptr := rfl
@[simp] theorem State.setCrm_rct (s : State) (x : CradleManager) : (s.setCrm x).rct = s.rct := rfl
@[simp] theorem State.setCrm_clu (s : State) (x : CradleManager) : (s.setCrm x).clu = s.clu := rfl
@[simp] theorem State.setCrm_rol (s : State) (x : CradleManager) : (s.setCrm x).rol = s.rol := rfl
@[simp] theorem State.setCrm_drc (s : State) (x : CradleManager) : (s.setCrm x).drc = s.drc := rfl
@[simp] theorem State.setCrm_crm (s : State) (x : CradleManager) : (s.setCrm x).crm = x := rfl
@[simp] theorem State.setCrm_alc (s : State) (x : CradleManager) : (s.setCrm x).alc = s.alc := rfl
@[simp] theorem State.setCrm_lbi (s : State) (x : CradleManager) : (s.setCrm x).lbi = s.lbi := rfl
@[simp] theorem State.setCrm_mdc (s : State) (x : CradleManager) : (s.setCrm x).mdc = s.mdc := rfl
@[simp] theorem State.setCrm_inputs (s : State) (x : CradleManager) : (s.setCrm x).inputs = s.inputs := rfl
@[simp] theorem State.setCrm_now (s : State) (x : CradleManager) : (s.setCrm x).now = s.now := rfl
@[simp] theorem State.setCrm_inReset (s : State) (x : CradleManager) : (s.setCrm x).inReset = s.inReset := rfl
@[simp] theorem State.setCrm_pending (s : State) (x : CradleManager) : (s.setCrm x).pending = s.pending := rfl

@[simp] theorem State.setCrm_again (s : State) (x y : CradleManager) : (s.setCrm x).setCrm y = s.setCrm y := rfl
@[simp] theorem State.setCrm_same (s : State) : s.setCrm s.crm = s := rfl

/-! ## After setAlc -/

@[simp] theorem State.setAlc_ptr (s : State) (x : AlertController) : (s.setAlc x).ptr = s.ptr := rfl
@[simp] theorem State.setAlc_rct (s : State) (x : AlertController) : (s.setAlc x).rct = s.rct := rfl
@[simp] theorem State.setAlc_clu (s : State) (x : AlertController) : (s.setAlc x).clu = s.clu := rfl
@[simp] theorem State.setAlc_rol (s : State) (x : AlertController) : (s.setAlc x).rol = s.rol := rfl
@[simp] theorem State.setAlc_drc (s : State) (x : AlertController) : (s.setAlc x).drc = s.drc := rfl
@[simp] theorem State.setAlc_crm (s : State) (x : AlertController) : (s.setAlc x).crm = s.crm := rfl
@[simp] theorem State.setAlc_alc (s : State) (x : AlertController) : (s.setAlc x).alc = x := rfl
@[simp] theorem State.setAlc_lbi (s : State) (x : AlertController) : (s.setAlc x).lbi = s.lbi := rfl
@[simp] theorem State.setAlc_mdc (s : State) (x : AlertController) : (s.setAlc x).mdc = s.mdc := rfl
@[simp] theorem State.setAlc_inputs (s : State) (x : AlertController) : (s.setAlc x).inputs = s.inputs := rfl
@[simp] theorem State.setAlc_now (s : State) (x : AlertController) : (s.setAlc x).now = s.now := rfl
@[simp] theorem State.setAlc_inReset (s : State) (x : AlertController) : (s.setAlc x).inReset = s.inReset := rfl
@[simp] theorem State.setAlc_pending (s : State) (x : AlertController) : (s.setAlc x).pending = s.pending := rfl

@[simp] theorem State.setAlc_again (s : State) (x y : AlertController) : (s.setAlc x).setAlc y = s.setAlc y := rfl
@[simp] theorem State.setAlc_same (s : State) : s.setAlc s.alc = s := rfl

/-! ## After setLbi -/

@[simp] theorem State.setLbi_ptr (s : State) (x : LineBus) : (s.setLbi x).ptr = s.ptr := rfl
@[simp] theorem State.setLbi_rct (s : State) (x : LineBus) : (s.setLbi x).rct = s.rct := rfl
@[simp] theorem State.setLbi_clu (s : State) (x : LineBus) : (s.setLbi x).clu = s.clu := rfl
@[simp] theorem State.setLbi_rol (s : State) (x : LineBus) : (s.setLbi x).rol = s.rol := rfl
@[simp] theorem State.setLbi_drc (s : State) (x : LineBus) : (s.setLbi x).drc = s.drc := rfl
@[simp] theorem State.setLbi_crm (s : State) (x : LineBus) : (s.setLbi x).crm = s.crm := rfl
@[simp] theorem State.setLbi_alc (s : State) (x : LineBus) : (s.setLbi x).alc = s.alc := rfl
@[simp] theorem State.setLbi_lbi (s : State) (x : LineBus) : (s.setLbi x).lbi = x := rfl
@[simp] theorem State.setLbi_mdc (s : State) (x : LineBus) : (s.setLbi x).mdc = s.mdc := rfl
@[simp] theorem State.setLbi_inputs (s : State) (x : LineBus) : (s.setLbi x).inputs = s.inputs := rfl
@[simp] theorem State.setLbi_now (s : State) (x : LineBus) : (s.setLbi x).now = s.now := rfl
@[simp] theorem State.setLbi_inReset (s : State) (x : LineBus) : (s.setLbi x).inReset = s.inReset := rfl
@[simp] theorem State.setLbi_pending (s : State) (x : LineBus) : (s.setLbi x).pending = s.pending := rfl

@[simp] theorem State.setLbi_again (s : State) (x y : LineBus) : (s.setLbi x).setLbi y = s.setLbi y := rfl
@[simp] theorem State.setLbi_same (s : State) : s.setLbi s.lbi = s := rfl

/-! ## After setMdc -/

@[simp] theorem State.setMdc_ptr (s : State) (x : ModeController) : (s.setMdc x).ptr = s.ptr := rfl
@[simp] theorem State.setMdc_rct (s : State) (x : ModeController) : (s.setMdc x).rct = s.rct := rfl
@[simp] theorem State.setMdc_clu (s : State) (x : ModeController) : (s.setMdc x).clu = s.clu := rfl
@[simp] theorem State.setMdc_rol (s : State) (x : ModeController) : (s.setMdc x).rol = s.rol := rfl
@[simp] theorem State.setMdc_drc (s : State) (x : ModeController) : (s.setMdc x).drc = s.drc := rfl
@[simp] theorem State.setMdc_crm (s : State) (x : ModeController) : (s.setMdc x).crm = s.crm := rfl
@[simp] theorem State.setMdc_alc (s : State) (x : ModeController) : (s.setMdc x).alc = s.alc := rfl
@[simp] theorem State.setMdc_lbi (s : State) (x : ModeController) : (s.setMdc x).lbi = s.lbi := rfl
@[simp] theorem State.setMdc_mdc (s : State) (x : ModeController) : (s.setMdc x).mdc = x := rfl
@[simp] theorem State.setMdc_inputs (s : State) (x : ModeController) : (s.setMdc x).inputs = s.inputs := rfl
@[simp] theorem State.setMdc_now (s : State) (x : ModeController) : (s.setMdc x).now = s.now := rfl
@[simp] theorem State.setMdc_inReset (s : State) (x : ModeController) : (s.setMdc x).inReset = s.inReset := rfl
@[simp] theorem State.setMdc_pending (s : State) (x : ModeController) : (s.setMdc x).pending = s.pending := rfl

@[simp] theorem State.setMdc_again (s : State) (x y : ModeController) : (s.setMdc x).setMdc y = s.setMdc y := rfl
@[simp] theorem State.setMdc_same (s : State) : s.setMdc s.mdc = s := rfl

/-! ## After setInputs -/

@[simp] theorem State.setInputs_ptr (s : State) (x : Inputs) : (s.setInputs x).ptr = s.ptr := rfl
@[simp] theorem State.setInputs_rct (s : State) (x : Inputs) : (s.setInputs x).rct = s.rct := rfl
@[simp] theorem State.setInputs_clu (s : State) (x : Inputs) : (s.setInputs x).clu = s.clu := rfl
@[simp] theorem State.setInputs_rol (s : State) (x : Inputs) : (s.setInputs x).rol = s.rol := rfl
@[simp] theorem State.setInputs_drc (s : State) (x : Inputs) : (s.setInputs x).drc = s.drc := rfl
@[simp] theorem State.setInputs_crm (s : State) (x : Inputs) : (s.setInputs x).crm = s.crm := rfl
@[simp] theorem State.setInputs_alc (s : State) (x : Inputs) : (s.setInputs x).alc = s.alc := rfl
@[simp] theorem State.setInputs_lbi (s : State) (x : Inputs) : (s.setInputs x).lbi = s.lbi := rfl
@[simp] theorem State.setInputs_mdc (s : State) (x : Inputs) : (s.setInputs x).mdc = s.mdc := rfl
@[simp] theorem State.setInputs_inputs (s : State) (x : Inputs) : (s.setInputs x).inputs = x := rfl
@[simp] theorem State.setInputs_now (s : State) (x : Inputs) : (s.setInputs x).now = s.now := rfl
@[simp] theorem State.setInputs_inReset (s : State) (x : Inputs) : (s.setInputs x).inReset = s.inReset := rfl
@[simp] theorem State.setInputs_pending (s : State) (x : Inputs) : (s.setInputs x).pending = s.pending := rfl

@[simp] theorem State.setInputs_again (s : State) (x y : Inputs) : (s.setInputs x).setInputs y = s.setInputs y := rfl
@[simp] theorem State.setInputs_same (s : State) : s.setInputs s.inputs = s := rfl

/-! ## After setNow -/

@[simp] theorem State.setNow_ptr (s : State) (x : Nat) : (s.setNow x).ptr = s.ptr := rfl
@[simp] theorem State.setNow_rct (s : State) (x : Nat) : (s.setNow x).rct = s.rct := rfl
@[simp] theorem State.setNow_clu (s : State) (x : Nat) : (s.setNow x).clu = s.clu := rfl
@[simp] theorem State.setNow_rol (s : State) (x : Nat) : (s.setNow x).rol = s.rol := rfl
@[simp] theorem State.setNow_drc (s : State) (x : Nat) : (s.setNow x).drc = s.drc := rfl
@[simp] theorem State.setNow_crm (s : State) (x : Nat) : (s.setNow x).crm = s.crm := rfl
@[simp] theorem State.setNow_alc (s : State) (x : Nat) : (s.setNow x).alc = s.alc := rfl
@[simp] theorem State.setNow_lbi (s : State) (x : Nat) : (s.setNow x).lbi = s.lbi := rfl
@[simp] theorem State.setNow_mdc (s : State) (x : Nat) : (s.setNow x).mdc = s.mdc := rfl
@[simp] theorem State.setNow_inputs (s : State) (x : Nat) : (s.setNow x).inputs = s.inputs := rfl
@[simp] theorem State.setNow_now (s : State) (x : Nat) : (s.setNow x).now = x := rfl
@[simp] theorem State.setNow_inReset (s : State) (x : Nat) : (s.setNow x).inReset = s.inReset := rfl
@[simp] theorem State.setNow_pending (s : State) (x : Nat) : (s.setNow x).pending = s.pending := rfl

@[simp] theorem State.setNow_again (s : State) (x y : Nat) : (s.setNow x).setNow y = s.setNow y := rfl
@[simp] theorem State.setNow_same (s : State) : s.setNow s.now = s := rfl

/-! ## After setInReset -/

@[simp] theorem State.setInReset_ptr (s : State) (x : Bool) : (s.setInReset x).ptr = s.ptr := rfl
@[simp] theorem State.setInReset_rct (s : State) (x : Bool) : (s.setInReset x).rct = s.rct := rfl
@[simp] theorem State.setInReset_clu (s : State) (x : Bool) : (s.setInReset x).clu = s.clu := rfl
@[simp] theorem State.setInReset_rol (s : State) (x : Bool) : (s.setInReset x).rol = s.rol := rfl
@[simp] theorem State.setInReset_drc (s : State) (x : Bool) : (s.setInReset x).drc = s.drc := rfl
@[simp] theorem State.setInReset_crm (s : State) (x : Bool) : (s.setInReset x).crm = s.crm := rfl
@[simp] theorem State.setInReset_alc (s : State) (x : Bool) : (s.setInReset x).alc = s.alc := rfl
@[simp] theorem State.setInReset_lbi (s : State) (x : Bool) : (s.setInReset x).lbi = s.lbi := rfl
@[simp] theorem State.setInReset_mdc (s : State) (x : Bool) : (s.setInReset x).mdc = s.mdc := rfl
@[simp] theorem State.setInReset_inputs (s : State) (x : Bool) : (s.setInReset x).inputs = s.inputs := rfl
@[simp] theorem State.setInReset_now (s : State) (x : Bool) : (s.setInReset x).now = s.now := rfl
@[simp] theorem State.setInReset_inReset (s : State) (x : Bool) : (s.setInReset x).inReset = x := rfl
@[simp] theorem State.setInReset_pending (s : State) (x : Bool) : (s.setInReset x).pending = s.pending := rfl

@[simp] theorem State.setInReset_again (s : State) (x y : Bool) : (s.setInReset x).setInReset y = s.setInReset y := rfl
@[simp] theorem State.setInReset_same (s : State) : s.setInReset s.inReset = s := rfl

/-! ## After setPending -/

@[simp] theorem State.setPending_ptr (s : State) (x : List Instr) : (s.setPending x).ptr = s.ptr := rfl
@[simp] theorem State.setPending_rct (s : State) (x : List Instr) : (s.setPending x).rct = s.rct := rfl
@[simp] theorem State.setPending_clu (s : State) (x : List Instr) : (s.setPending x).clu = s.clu := rfl
@[simp] theorem State.setPending_rol (s : State) (x : List Instr) : (s.setPending x).rol = s.rol := rfl
@[simp] theorem State.setPending_drc (s : State) (x : List Instr) : (s.setPending x).drc = s.drc := rfl
@[simp] theorem State.setPending_crm (s : State) (x : List Instr) : (s.setPending x).crm = s.crm := rfl
@[simp] theorem State.setPending_alc (s : State) (x : List Instr) : (s.setPending x).alc = s.alc := rfl
@[simp] theorem State.setPending_lbi (s : State) (x : List Instr) : (s.setPending x).lbi = s.lbi := rfl
@[simp] theorem State.setPending_mdc (s : State) (x : List Instr) : (s.setPending x).mdc = s.mdc := rfl
@[simp] theorem State.setPending_inputs (s : State) (x : List Instr) : (s.setPending x).inputs = s.inputs := rfl
@[simp] theorem State.setPending_now (s : State) (x : List Instr) : (s.setPending x).now = s.now := rfl
@[simp] theorem State.setPending_inReset (s : State) (x : List Instr) : (s.setPending x).inReset = s.inReset := rfl
@[simp] theorem State.setPending_pending (s : State) (x : List Instr) : (s.setPending x).pending = x := rfl

@[simp] theorem State.setPending_again (s : State) (x y : List Instr) : (s.setPending x).setPending y = s.setPending y := rfl
@[simp] theorem State.setPending_same (s : State) : s.setPending s.pending = s := rfl

end Sys2Proof.Machine
end

