-- ==== Sys2Proof/Laws/Frames.lean ====
section
/-! SUPPORT. The frames of the shared operations: for each, the blocks it leaves as they were. Every frame is a
conjunction of reads, so `simp` uses each part as a rewrite. -/

namespace Sys2Proof.Machine

/-! ## Registers of a position, the mode, the time base -/

/-- `State.setCradle` changes no block but crm. -/
@[simp] theorem State.setCradle_frame (s : State) (c : Cradle) (r : CradleRec) :
    (s.setCradle c r).ptr = s.ptr ∧ (s.setCradle c r).rct = s.rct ∧ (s.setCradle c r).clu = s.clu ∧
      (s.setCradle c r).rol = s.rol ∧ (s.setCradle c r).drc = s.drc ∧ (s.setCradle c r).alc = s.alc ∧
      (s.setCradle c r).lbi = s.lbi ∧ (s.setCradle c r).mdc = s.mdc ∧ (s.setCradle c r).inputs = s.inputs ∧
      (s.setCradle c r).now = s.now ∧ (s.setCradle c r).inReset = s.inReset ∧ (s.setCradle c r).pending = s.pending := by
  cases c <;> simp [State.setCradle]

/-- `State.setBeam` changes no block but drc. -/
@[simp] theorem State.setBeam_frame (s : State) (c : Cradle) (b : Beam) :
    (s.setBeam c b).ptr = s.ptr ∧ (s.setBeam c b).rct = s.rct ∧ (s.setBeam c b).clu = s.clu ∧
      (s.setBeam c b).rol = s.rol ∧ (s.setBeam c b).crm = s.crm ∧ (s.setBeam c b).alc = s.alc ∧
      (s.setBeam c b).lbi = s.lbi ∧ (s.setBeam c b).mdc = s.mdc ∧ (s.setBeam c b).inputs = s.inputs ∧
      (s.setBeam c b).now = s.now ∧ (s.setBeam c b).inReset = s.inReset ∧ (s.setBeam c b).pending = s.pending := by
  cases c <;> simp [State.setBeam]

/-- `State.putMode` changes no block but mdc. -/
@[simp] theorem State.putMode_frame (s : State) (m : Mode) :
    (s.putMode m).ptr = s.ptr ∧ (s.putMode m).rct = s.rct ∧ (s.putMode m).clu = s.clu ∧
      (s.putMode m).rol = s.rol ∧ (s.putMode m).drc = s.drc ∧ (s.putMode m).crm = s.crm ∧
      (s.putMode m).alc = s.alc ∧ (s.putMode m).lbi = s.lbi ∧ (s.putMode m).inputs = s.inputs ∧
      (s.putMode m).now = s.now ∧ (s.putMode m).inReset = s.inReset ∧ (s.putMode m).pending = s.pending := by
  simp [State.putMode]

/-- `State.told` changes no block but inputs. -/
@[simp] theorem State.told_frame (s : State) (p : Pin) (level : Bool) :
    (s.told p level).ptr = s.ptr ∧ (s.told p level).rct = s.rct ∧ (s.told p level).clu = s.clu ∧
      (s.told p level).rol = s.rol ∧ (s.told p level).drc = s.drc ∧ (s.told p level).crm = s.crm ∧
      (s.told p level).alc = s.alc ∧ (s.told p level).lbi = s.lbi ∧ (s.told p level).mdc = s.mdc ∧
      (s.told p level).now = s.now ∧ (s.told p level).inReset = s.inReset ∧ (s.told p level).pending = s.pending := by
  simp [State.told]

/-- `State.reach` changes no block but now. -/
@[simp] theorem State.reach_frame (s : State) (t : Nat) :
    (s.reach t).ptr = s.ptr ∧ (s.reach t).rct = s.rct ∧ (s.reach t).clu = s.clu ∧
      (s.reach t).rol = s.rol ∧ (s.reach t).drc = s.drc ∧ (s.reach t).crm = s.crm ∧
      (s.reach t).alc = s.alc ∧ (s.reach t).lbi = s.lbi ∧ (s.reach t).mdc = s.mdc ∧
      (s.reach t).inputs = s.inputs ∧ (s.reach t).inReset = s.inReset ∧ (s.reach t).pending = s.pending := by
  simp [State.reach]

/-! ## HOLD -/

/-- `State.readHold` changes no block but ptr. -/
@[simp] theorem State.readHold_frame (s : State) :
    (s.readHold).rct = s.rct ∧ (s.readHold).clu = s.clu ∧ (s.readHold).rol = s.rol ∧
      (s.readHold).drc = s.drc ∧ (s.readHold).crm = s.crm ∧ (s.readHold).alc = s.alc ∧
      (s.readHold).lbi = s.lbi ∧ (s.readHold).mdc = s.mdc ∧ (s.readHold).inputs = s.inputs ∧
      (s.readHold).now = s.now ∧ (s.readHold).inReset = s.inReset ∧ (s.readHold).pending = s.pending := by
  unfold State.readHold
  dsimp only
  split <;> simp

/-- `State.setHoldBlocked` changes no block but ptr. -/
@[simp] theorem State.setHoldBlocked_frame (s : State) (v : Bool) :
    (s.setHoldBlocked v).rct = s.rct ∧ (s.setHoldBlocked v).clu = s.clu ∧ (s.setHoldBlocked v).rol = s.rol ∧
      (s.setHoldBlocked v).drc = s.drc ∧ (s.setHoldBlocked v).crm = s.crm ∧ (s.setHoldBlocked v).alc = s.alc ∧
      (s.setHoldBlocked v).lbi = s.lbi ∧ (s.setHoldBlocked v).mdc = s.mdc ∧ (s.setHoldBlocked v).inputs = s.inputs ∧
      (s.setHoldBlocked v).now = s.now ∧ (s.setHoldBlocked v).inReset = s.inReset ∧ (s.setHoldBlocked v).pending = s.pending := by
  simp [State.setHoldBlocked]

/-- `State.setHoldStop` changes no block but ptr. -/
@[simp] theorem State.setHoldStop_frame (s : State) (v : Bool) :
    (s.setHoldStop v).rct = s.rct ∧ (s.setHoldStop v).clu = s.clu ∧ (s.setHoldStop v).rol = s.rol ∧
      (s.setHoldStop v).drc = s.drc ∧ (s.setHoldStop v).crm = s.crm ∧ (s.setHoldStop v).alc = s.alc ∧
      (s.setHoldStop v).lbi = s.lbi ∧ (s.setHoldStop v).mdc = s.mdc ∧ (s.setHoldStop v).inputs = s.inputs ∧
      (s.setHoldStop v).now = s.now ∧ (s.setHoldStop v).inReset = s.inReset ∧ (s.setHoldStop v).pending = s.pending := by
  simp [State.setHoldStop]

/-! ## The notice queue and the level-1 records -/

/-- `State.putLost` changes no block but lbi. -/
@[simp] theorem State.putLost_frame (s : State) :
    (s.putLost).ptr = s.ptr ∧ (s.putLost).rct = s.rct ∧ (s.putLost).clu = s.clu ∧
      (s.putLost).rol = s.rol ∧ (s.putLost).drc = s.drc ∧ (s.putLost).crm = s.crm ∧
      (s.putLost).alc = s.alc ∧ (s.putLost).mdc = s.mdc ∧ (s.putLost).inputs = s.inputs ∧
      (s.putLost).now = s.now ∧ (s.putLost).inReset = s.inReset ∧ (s.putLost).pending = s.pending := by
  simp [State.putLost]

/-- What `alertNotice` can do: nothing, the resend mark, a new ALERT at the tail, or what a full queue does. -/
theorem State.alertNotice_cases (s : State) (full : State → State) :
    (.alert ∈ s.lbi.notices ∧ s.drivingAlert = false ∧ s.alertNotice full = s) ∨
    (.alert ∈ s.lbi.notices ∧ s.drivingAlert = true ∧
      s.alertNotice full = s.setLbi { s.lbi with resend := true }) ∨
    (.alert ∉ s.lbi.notices ∧ s.lbi.notices.length < Config.noticesMax ∧
      s.alertNotice full = s.setLbi { s.lbi with notices := s.lbi.notices ++ [.alert] }) ∨
    (.alert ∉ s.lbi.notices ∧ Config.noticesMax ≤ s.lbi.notices.length ∧
      s.alertNotice full = full s) := by
  unfold State.alertNotice
  split
  · cases h : s.drivingAlert <;> simp_all
  · split <;> simp_all

/-- Only the bus interface and the alert records differ: the frame of every notice and level-1 operation. -/
abbrev NoticeSide (s t : State) : Prop :=
  t.ptr = s.ptr ∧ t.rct = s.rct ∧ t.clu = s.clu ∧ t.rol = s.rol ∧ t.drc = s.drc ∧
    t.crm = s.crm ∧ t.mdc = s.mdc ∧ t.inputs = s.inputs ∧ t.now = s.now ∧ t.inReset = s.inReset ∧ t.pending = s.pending

theorem NoticeSide.trans {s t u : State} (h : NoticeSide s t) (k : NoticeSide t u) : NoticeSide s u := by
  simp_all [NoticeSide]

theorem State.alertNotice_noticeSide (s : State) (full : State → State) (h : NoticeSide s (full s)) :
    NoticeSide s (s.alertNotice full) := by
  obtain ⟨-, -, e⟩ | ⟨-, -, e⟩ | ⟨-, -, e⟩ | ⟨-, -, e⟩ := s.alertNotice_cases full <;> rw [e]
  · simp [NoticeSide]
  · simp [NoticeSide]
  · simp [NoticeSide]
  · exact h

theorem NoticeSide.left {s t u : State} (h : NoticeSide s t) (k : NoticeSide s u) : NoticeSide t u := by
  simp_all [NoticeSide]

theorem State.attention_noticeSide (s : State) (c : Cause) (param : BitVec 12) (full : State → State)
    (h : ∀ t, NoticeSide s t → NoticeSide s (full t)) : NoticeSide s (s.attention c param full) := by
  unfold State.attention
  dsimp only
  split
  · generalize e : s.setAlc _ = t
    have k : NoticeSide s t := by simp [NoticeSide, ← e]
    exact k.trans (State.alertNotice_noticeSide _ _ (k.left (h t k)))
  · simp [NoticeSide]

/-- `State.discardNotice` changes no block but alc, lbi. -/
@[simp] theorem State.discardNotice_frame (s : State) :
    (s.discardNotice).ptr = s.ptr ∧ (s.discardNotice).rct = s.rct ∧ (s.discardNotice).clu = s.clu ∧
      (s.discardNotice).rol = s.rol ∧ (s.discardNotice).drc = s.drc ∧ (s.discardNotice).crm = s.crm ∧
      (s.discardNotice).mdc = s.mdc ∧ (s.discardNotice).inputs = s.inputs ∧ (s.discardNotice).now = s.now ∧
      (s.discardNotice).inReset = s.inReset ∧ (s.discardNotice).pending = s.pending := by
  have h : NoticeSide s s.discardNotice := by
    unfold State.discardNotice
    split
    · simp [NoticeSide]
    · exact NoticeSide.trans (by simp [NoticeSide] : NoticeSide s s.putLost)
        (State.attention_noticeSide _ _ _ _ fun t ht => ht.trans (by simp [NoticeSide]))
  unfold NoticeSide at h
  simp only [h, and_self]

/-- `State.queueAlert` changes no block but alc, lbi. -/
@[simp] theorem State.queueAlert_frame (s : State) :
    (s.queueAlert).ptr = s.ptr ∧ (s.queueAlert).rct = s.rct ∧ (s.queueAlert).clu = s.clu ∧
      (s.queueAlert).rol = s.rol ∧ (s.queueAlert).drc = s.drc ∧ (s.queueAlert).crm = s.crm ∧
      (s.queueAlert).mdc = s.mdc ∧ (s.queueAlert).inputs = s.inputs ∧ (s.queueAlert).now = s.now ∧
      (s.queueAlert).inReset = s.inReset ∧ (s.queueAlert).pending = s.pending := by
  have h : NoticeSide s s.queueAlert :=
    State.alertNotice_noticeSide s State.discardNotice (by simp [NoticeSide])
  unfold NoticeSide at h
  simp only [h, and_self]

/-- `State.joinNotice` changes no block but alc, lbi. -/
@[simp] theorem State.joinNotice_frame (s : State) (n : Notice) :
    (s.joinNotice n).ptr = s.ptr ∧ (s.joinNotice n).rct = s.rct ∧ (s.joinNotice n).clu = s.clu ∧
      (s.joinNotice n).rol = s.rol ∧ (s.joinNotice n).drc = s.drc ∧ (s.joinNotice n).crm = s.crm ∧
      (s.joinNotice n).mdc = s.mdc ∧ (s.joinNotice n).inputs = s.inputs ∧ (s.joinNotice n).now = s.now ∧
      (s.joinNotice n).inReset = s.inReset ∧ (s.joinNotice n).pending = s.pending := by
  unfold State.joinNotice
  split <;> simp

/-- `State.raise1` changes no block but alc, lbi. -/
@[simp] theorem State.raise1_frame (s : State) (c : Cause) (param : BitVec 12) :
    (s.raise1 c param).ptr = s.ptr ∧ (s.raise1 c param).rct = s.rct ∧ (s.raise1 c param).clu = s.clu ∧
      (s.raise1 c param).rol = s.rol ∧ (s.raise1 c param).drc = s.drc ∧ (s.raise1 c param).crm = s.crm ∧
      (s.raise1 c param).mdc = s.mdc ∧ (s.raise1 c param).inputs = s.inputs ∧ (s.raise1 c param).now = s.now ∧
      (s.raise1 c param).inReset = s.inReset ∧ (s.raise1 c param).pending = s.pending := by
  have h : NoticeSide s (s.raise1 c param) :=
    State.attention_noticeSide s c param State.discardNotice fun t ht => ht.trans (by simp [NoticeSide])
  unfold NoticeSide at h
  simp only [h, and_self]

/-- `State.retire1` changes no block but alc, lbi. -/
@[simp] theorem State.retire1_frame (s : State) :
    (s.retire1).ptr = s.ptr ∧ (s.retire1).rct = s.rct ∧ (s.retire1).clu = s.clu ∧
      (s.retire1).rol = s.rol ∧ (s.retire1).drc = s.drc ∧ (s.retire1).crm = s.crm ∧
      (s.retire1).mdc = s.mdc ∧ (s.retire1).inputs = s.inputs ∧ (s.retire1).now = s.now ∧
      (s.retire1).inReset = s.inReset ∧ (s.retire1).pending = s.pending := by
  simp [State.retire1]

/-- `State.endCondition` changes no block but alc, lbi. -/
@[simp] theorem State.endCondition_frame (s : State) (c : Cause) :
    (s.endCondition c).ptr = s.ptr ∧ (s.endCondition c).rct = s.rct ∧ (s.endCondition c).clu = s.clu ∧
      (s.endCondition c).rol = s.rol ∧ (s.endCondition c).drc = s.drc ∧ (s.endCondition c).crm = s.crm ∧
      (s.endCondition c).mdc = s.mdc ∧ (s.endCondition c).inputs = s.inputs ∧ (s.endCondition c).now = s.now ∧
      (s.endCondition c).inReset = s.inReset ∧ (s.endCondition c).pending = s.pending := by
  unfold State.endCondition
  split <;> simp

/-! ## The Re-offer List -/

/-- `State.reoffer` changes no block but rol. -/
@[simp] theorem State.reoffer_frame (s : State) (st : Stem) :
    (s.reoffer st).ptr = s.ptr ∧ (s.reoffer st).rct = s.rct ∧ (s.reoffer st).clu = s.clu ∧
      (s.reoffer st).drc = s.drc ∧ (s.reoffer st).crm = s.crm ∧ (s.reoffer st).alc = s.alc ∧
      (s.reoffer st).lbi = s.lbi ∧ (s.reoffer st).mdc = s.mdc ∧ (s.reoffer st).inputs = s.inputs ∧
      (s.reoffer st).now = s.now ∧ (s.reoffer st).inReset = s.inReset ∧ (s.reoffer st).pending = s.pending := by
  unfold State.reoffer
  split <;> simp

/-- `State.reofferAll` changes no block but rol. -/
@[simp] theorem State.reofferAll_frame (s : State) (l : List Stem) :
    (s.reofferAll l).ptr = s.ptr ∧ (s.reofferAll l).rct = s.rct ∧ (s.reofferAll l).clu = s.clu ∧
      (s.reofferAll l).drc = s.drc ∧ (s.reofferAll l).crm = s.crm ∧ (s.reofferAll l).alc = s.alc ∧
      (s.reofferAll l).lbi = s.lbi ∧ (s.reofferAll l).mdc = s.mdc ∧ (s.reofferAll l).inputs = s.inputs ∧
      (s.reofferAll l).now = s.now ∧ (s.reofferAll l).inReset = s.inReset ∧ (s.reofferAll l).pending = s.pending := by
  induction l generalizing s with
  | nil => simp [State.reofferAll]
  | cons st l ih => simp [State.reofferAll, ih]

/-- `State.expire` changes no block but rol. -/
@[simp] theorem State.expire_frame (s : State) :
    (s.expire).ptr = s.ptr ∧ (s.expire).rct = s.rct ∧ (s.expire).clu = s.clu ∧
      (s.expire).drc = s.drc ∧ (s.expire).crm = s.crm ∧ (s.expire).alc = s.alc ∧
      (s.expire).lbi = s.lbi ∧ (s.expire).mdc = s.mdc ∧ (s.expire).inputs = s.inputs ∧
      (s.expire).now = s.now ∧ (s.expire).inReset = s.inReset ∧ (s.expire).pending = s.pending := by
  simp [State.expire]

/-! ## The claim round -/

/-- `State.roundIdle` changes no block but clu. -/
@[simp] theorem State.roundIdle_frame (s : State) :
    (s.roundIdle).ptr = s.ptr ∧ (s.roundIdle).rct = s.rct ∧ (s.roundIdle).rol = s.rol ∧
      (s.roundIdle).drc = s.drc ∧ (s.roundIdle).crm = s.crm ∧ (s.roundIdle).alc = s.alc ∧
      (s.roundIdle).lbi = s.lbi ∧ (s.roundIdle).mdc = s.mdc ∧ (s.roundIdle).inputs = s.inputs ∧
      (s.roundIdle).now = s.now ∧ (s.roundIdle).inReset = s.inReset ∧ (s.roundIdle).pending = s.pending := by
  simp [State.roundIdle]

/-- `State.stopClaimFrame` changes no block but lbi. -/
@[simp] theorem State.stopClaimFrame_frame (s : State) :
    (s.stopClaimFrame).ptr = s.ptr ∧ (s.stopClaimFrame).rct = s.rct ∧ (s.stopClaimFrame).clu = s.clu ∧
      (s.stopClaimFrame).rol = s.rol ∧ (s.stopClaimFrame).drc = s.drc ∧ (s.stopClaimFrame).crm = s.crm ∧
      (s.stopClaimFrame).alc = s.alc ∧ (s.stopClaimFrame).mdc = s.mdc ∧ (s.stopClaimFrame).inputs = s.inputs ∧
      (s.stopClaimFrame).now = s.now ∧ (s.stopClaimFrame).inReset = s.inReset ∧ (s.stopClaimFrame).pending = s.pending := by
  unfold State.stopClaimFrame
  split <;> simp

/-- `State.giveUpStart` changes no block but clu. -/
@[simp] theorem State.giveUpStart_frame (s : State) :
    (s.giveUpStart).ptr = s.ptr ∧ (s.giveUpStart).rct = s.rct ∧ (s.giveUpStart).rol = s.rol ∧
      (s.giveUpStart).drc = s.drc ∧ (s.giveUpStart).crm = s.crm ∧ (s.giveUpStart).alc = s.alc ∧
      (s.giveUpStart).lbi = s.lbi ∧ (s.giveUpStart).mdc = s.mdc ∧ (s.giveUpStart).inputs = s.inputs ∧
      (s.giveUpStart).now = s.now ∧ (s.giveUpStart).inReset = s.inReset ∧ (s.giveUpStart).pending = s.pending := by
  unfold State.giveUpStart
  split <;> simp

/-- `State.endLostFrame` changes no block but clu. -/
@[simp] theorem State.endLostFrame_frame (s : State) :
    (s.endLostFrame).ptr = s.ptr ∧ (s.endLostFrame).rct = s.rct ∧ (s.endLostFrame).rol = s.rol ∧
      (s.endLostFrame).drc = s.drc ∧ (s.endLostFrame).crm = s.crm ∧ (s.endLostFrame).alc = s.alc ∧
      (s.endLostFrame).lbi = s.lbi ∧ (s.endLostFrame).mdc = s.mdc ∧ (s.endLostFrame).inputs = s.inputs ∧
      (s.endLostFrame).now = s.now ∧ (s.endLostFrame).inReset = s.inReset ∧ (s.endLostFrame).pending = s.pending := by
  unfold State.endLostFrame
  split <;> simp

/-- `State.endLost` changes no block but clu. -/
@[simp] theorem State.endLost_frame (s : State) :
    (s.endLost).ptr = s.ptr ∧ (s.endLost).rct = s.rct ∧ (s.endLost).rol = s.rol ∧
      (s.endLost).drc = s.drc ∧ (s.endLost).crm = s.crm ∧ (s.endLost).alc = s.alc ∧
      (s.endLost).lbi = s.lbi ∧ (s.endLost).mdc = s.mdc ∧ (s.endLost).inputs = s.inputs ∧
      (s.endLost).now = s.now ∧ (s.endLost).inReset = s.inReset ∧ (s.endLost).pending = s.pending := by
  unfold State.endLost
  split <;> simp

/-- `State.forfeitChosen` changes no block but rol. -/
@[simp] theorem State.forfeitChosen_frame (s : State) :
    (s.forfeitChosen).ptr = s.ptr ∧ (s.forfeitChosen).rct = s.rct ∧ (s.forfeitChosen).clu = s.clu ∧
      (s.forfeitChosen).drc = s.drc ∧ (s.forfeitChosen).crm = s.crm ∧ (s.forfeitChosen).alc = s.alc ∧
      (s.forfeitChosen).lbi = s.lbi ∧ (s.forfeitChosen).mdc = s.mdc ∧ (s.forfeitChosen).inputs = s.inputs ∧
      (s.forfeitChosen).now = s.now ∧ (s.forfeitChosen).inReset = s.inReset ∧ (s.forfeitChosen).pending = s.pending := by
  unfold State.forfeitChosen
  split <;> simp

/-- `State.modeEndsRound` changes no block but clu, rol, lbi. -/
@[simp] theorem State.modeEndsRound_frame (s : State) :
    (s.modeEndsRound).ptr = s.ptr ∧ (s.modeEndsRound).rct = s.rct ∧ (s.modeEndsRound).drc = s.drc ∧
      (s.modeEndsRound).crm = s.crm ∧ (s.modeEndsRound).alc = s.alc ∧ (s.modeEndsRound).mdc = s.mdc ∧
      (s.modeEndsRound).inputs = s.inputs ∧ (s.modeEndsRound).now = s.now ∧ (s.modeEndsRound).inReset = s.inReset ∧
      (s.modeEndsRound).pending = s.pending := by
  unfold State.modeEndsRound
  (repeat' split) <;> simp

/-- `State.changeMode` changes no block but clu, rol, lbi, mdc. -/
@[simp] theorem State.changeMode_frame (s : State) (m : Mode) :
    (s.changeMode m).ptr = s.ptr ∧ (s.changeMode m).rct = s.rct ∧ (s.changeMode m).drc = s.drc ∧
      (s.changeMode m).crm = s.crm ∧ (s.changeMode m).alc = s.alc ∧ (s.changeMode m).inputs = s.inputs ∧
      (s.changeMode m).now = s.now ∧ (s.changeMode m).inReset = s.inReset ∧ (s.changeMode m).pending = s.pending := by
  unfold State.changeMode
  split <;> simp

/-- `State.openRound` changes no block but clu, lbi. -/
@[simp] theorem State.openRound_frame (s : State) (kind : RoundKind) (st : Stem) :
    (s.openRound kind st).ptr = s.ptr ∧ (s.openRound kind st).rct = s.rct ∧ (s.openRound kind st).rol = s.rol ∧
      (s.openRound kind st).drc = s.drc ∧ (s.openRound kind st).crm = s.crm ∧ (s.openRound kind st).alc = s.alc ∧
      (s.openRound kind st).mdc = s.mdc ∧ (s.openRound kind st).inputs = s.inputs ∧ (s.openRound kind st).now = s.now ∧
      (s.openRound kind st).inReset = s.inReset ∧ (s.openRound kind st).pending = s.pending := by
  unfold State.openRound
  dsimp only
  split <;> simp

/-! ## Recipes and cradles -/

/-- `State.onRecipe` changes no block but rct. -/
@[simp] theorem State.onRecipe_frame (s : State) (i : Nat) (f : Recipe → Recipe) :
    (s.onRecipe i f).ptr = s.ptr ∧ (s.onRecipe i f).clu = s.clu ∧ (s.onRecipe i f).rol = s.rol ∧
      (s.onRecipe i f).drc = s.drc ∧ (s.onRecipe i f).crm = s.crm ∧ (s.onRecipe i f).alc = s.alc ∧
      (s.onRecipe i f).lbi = s.lbi ∧ (s.onRecipe i f).mdc = s.mdc ∧ (s.onRecipe i f).inputs = s.inputs ∧
      (s.onRecipe i f).now = s.now ∧ (s.onRecipe i f).inReset = s.inReset ∧ (s.onRecipe i f).pending = s.pending := by
  simp [State.onRecipe]

/-- `State.completionReport` changes no block but rct, alc, lbi. -/
@[simp] theorem State.completionReport_frame (s : State) (i : Nat) :
    (s.completionReport i).ptr = s.ptr ∧ (s.completionReport i).clu = s.clu ∧ (s.completionReport i).rol = s.rol ∧
      (s.completionReport i).drc = s.drc ∧ (s.completionReport i).crm = s.crm ∧ (s.completionReport i).mdc = s.mdc ∧
      (s.completionReport i).inputs = s.inputs ∧ (s.completionReport i).now = s.now ∧ (s.completionReport i).inReset = s.inReset ∧
      (s.completionReport i).pending = s.pending := by
  unfold State.completionReport
  dsimp only
  (repeat' split) <;> simp

/-- `State.afterLoss` changes no block but crm, rct. -/
@[simp] theorem State.afterLoss_frame (s : State) (c : Cradle) :
    (s.afterLoss c).ptr = s.ptr ∧ (s.afterLoss c).clu = s.clu ∧ (s.afterLoss c).rol = s.rol ∧
      (s.afterLoss c).drc = s.drc ∧ (s.afterLoss c).alc = s.alc ∧ (s.afterLoss c).lbi = s.lbi ∧
      (s.afterLoss c).mdc = s.mdc ∧ (s.afterLoss c).inputs = s.inputs ∧ (s.afterLoss c).now = s.now ∧
      (s.afterLoss c).inReset = s.inReset ∧ (s.afterLoss c).pending = s.pending := by
  unfold State.afterLoss
  dsimp only
  (repeat' split) <;> simp

/-- `State.uncommit` changes no block but crm, rct. -/
@[simp] theorem State.uncommit_frame (s : State) (c : Cradle) (n : Nat) :
    (s.uncommit c n).ptr = s.ptr ∧ (s.uncommit c n).clu = s.clu ∧ (s.uncommit c n).rol = s.rol ∧
      (s.uncommit c n).drc = s.drc ∧ (s.uncommit c n).alc = s.alc ∧ (s.uncommit c n).lbi = s.lbi ∧
      (s.uncommit c n).mdc = s.mdc ∧ (s.uncommit c n).inputs = s.inputs ∧ (s.uncommit c n).now = s.now ∧
      (s.uncommit c n).inReset = s.inReset ∧ (s.uncommit c n).pending = s.pending := by
  unfold State.uncommit
  split <;> simp

/-- `State.complete` changes no block but crm, rct, alc, lbi. -/
@[simp] theorem State.complete_frame (s : State) (c : Cradle) (how : Completion) :
    (s.complete c how).ptr = s.ptr ∧ (s.complete c how).clu = s.clu ∧ (s.complete c how).rol = s.rol ∧
      (s.complete c how).drc = s.drc ∧ (s.complete c how).mdc = s.mdc ∧ (s.complete c how).inputs = s.inputs ∧
      (s.complete c how).now = s.now ∧ (s.complete c how).inReset = s.inReset ∧ (s.complete c how).pending = s.pending := by
  unfold State.complete
  dsimp only
  split <;> simp

/-- `State.land` changes no block but crm, rct, alc, lbi. -/
@[simp] theorem State.land_frame (s : State) (e : Claim) (verified : Bool) :
    (s.land e verified).ptr = s.ptr ∧ (s.land e verified).clu = s.clu ∧ (s.land e verified).rol = s.rol ∧
      (s.land e verified).drc = s.drc ∧ (s.land e verified).mdc = s.mdc ∧ (s.land e verified).inputs = s.inputs ∧
      (s.land e verified).now = s.now ∧ (s.land e verified).inReset = s.inReset ∧ (s.land e verified).pending = s.pending := by
  unfold State.land
  dsimp only
  (repeat' split) <;> simp

/-! ## Releases, the tests at the end of an event, STOP -/

/-- `State.forfeitCradle` changes no block but drc, rol. -/
@[simp] theorem State.forfeitCradle_frame (s : State) (c : Cradle) :
    (s.forfeitCradle c).ptr = s.ptr ∧ (s.forfeitCradle c).rct = s.rct ∧ (s.forfeitCradle c).clu = s.clu ∧
      (s.forfeitCradle c).crm = s.crm ∧ (s.forfeitCradle c).alc = s.alc ∧ (s.forfeitCradle c).lbi = s.lbi ∧
      (s.forfeitCradle c).mdc = s.mdc ∧ (s.forfeitCradle c).inputs = s.inputs ∧ (s.forfeitCradle c).now = s.now ∧
      (s.forfeitCradle c).inReset = s.inReset ∧ (s.forfeitCradle c).pending = s.pending := by
  simp [State.forfeitCradle]

/-- `State.discardFalling` changes no block but drc. -/
@[simp] theorem State.discardFalling_frame (s : State) (c : Cradle) :
    (s.discardFalling c).ptr = s.ptr ∧ (s.discardFalling c).rct = s.rct ∧ (s.discardFalling c).clu = s.clu ∧
      (s.discardFalling c).rol = s.rol ∧ (s.discardFalling c).crm = s.crm ∧ (s.discardFalling c).alc = s.alc ∧
      (s.discardFalling c).lbi = s.lbi ∧ (s.discardFalling c).mdc = s.mdc ∧ (s.discardFalling c).inputs = s.inputs ∧
      (s.discardFalling c).now = s.now ∧ (s.discardFalling c).inReset = s.inReset ∧ (s.discardFalling c).pending = s.pending := by
  simp [State.discardFalling]

/-- `State.stopForfeit` changes no block but drc, rol, crm, rct. -/
@[simp] theorem State.stopForfeit_frame (s : State) :
    (s.stopForfeit).ptr = s.ptr ∧ (s.stopForfeit).clu = s.clu ∧ (s.stopForfeit).alc = s.alc ∧
      (s.stopForfeit).lbi = s.lbi ∧ (s.stopForfeit).mdc = s.mdc ∧ (s.stopForfeit).inputs = s.inputs ∧
      (s.stopForfeit).now = s.now ∧ (s.stopForfeit).inReset = s.inReset ∧ (s.stopForfeit).pending = s.pending := by
  simp [State.stopForfeit]

/-- `State.reviewBlocked` changes no block but crm, alc, lbi, ptr. -/
@[simp] theorem State.reviewBlocked_frame (s : State) :
    (s.reviewBlocked).rct = s.rct ∧ (s.reviewBlocked).clu = s.clu ∧ (s.reviewBlocked).rol = s.rol ∧
      (s.reviewBlocked).drc = s.drc ∧ (s.reviewBlocked).mdc = s.mdc ∧ (s.reviewBlocked).inputs = s.inputs ∧
      (s.reviewBlocked).now = s.now ∧ (s.reviewBlocked).inReset = s.inReset ∧ (s.reviewBlocked).pending = s.pending := by
  unfold State.reviewBlocked
  (repeat' split) <;> simp

/-- `State.reviewIdle` changes no block but mdc, clu, lbi, rol. -/
@[simp] theorem State.reviewIdle_frame (s : State) :
    (s.reviewIdle).ptr = s.ptr ∧ (s.reviewIdle).rct = s.rct ∧ (s.reviewIdle).drc = s.drc ∧
      (s.reviewIdle).crm = s.crm ∧ (s.reviewIdle).alc = s.alc ∧ (s.reviewIdle).inputs = s.inputs ∧
      (s.reviewIdle).now = s.now ∧ (s.reviewIdle).inReset = s.inReset ∧ (s.reviewIdle).pending = s.pending := by
  unfold State.reviewIdle
  split <;> simp

/-- `State.settle` changes no block but crm, alc, lbi, ptr, mdc, clu, rol. -/
@[simp] theorem State.settle_frame (s : State) :
    (s.settle).rct = s.rct ∧ (s.settle).drc = s.drc ∧ (s.settle).inputs = s.inputs ∧
      (s.settle).now = s.now ∧ (s.settle).inReset = s.inReset ∧ (s.settle).pending = s.pending := by
  simp [State.settle]

/-- `State.enterStop` changes no block but ptr, rct, clu, rol, drc, crm, alc, lbi, mdc. -/
@[simp] theorem State.enterStop_frame (s : State) (c : Cause) (param : BitVec 12) :
    (s.enterStop c param).inputs = s.inputs ∧ (s.enterStop c param).now = s.now ∧ (s.enterStop c param).inReset = s.inReset ∧
      (s.enterStop c param).pending = s.pending := by
  unfold State.enterStop
  dsimp only
  split <;> simp

/-- `State.raise2` changes no block but ptr, rct, clu, rol, drc, crm, alc, lbi, mdc. -/
@[simp] theorem State.raise2_frame (s : State) (c : Cause) (param : BitVec 12) :
    (s.raise2 c param).inputs = s.inputs ∧ (s.raise2 c param).now = s.now ∧ (s.raise2 c param).inReset = s.inReset ∧
      (s.raise2 c param).pending = s.pending := by
  unfold State.raise2
  split <;> simp

/-- `State.endStop` changes no block but ptr, clu, rol, drc, crm, alc, lbi, mdc. -/
@[simp] theorem State.endStop_frame (s : State) :
    (s.endStop).rct = s.rct ∧ (s.endStop).inputs = s.inputs ∧ (s.endStop).now = s.now ∧
      (s.endStop).inReset = s.inReset ∧ (s.endStop).pending = s.pending := by
  unfold State.endStop
  dsimp only
  split <;> simp

/-- `State.retire2` changes no block but ptr, clu, rol, drc, crm, alc, lbi, mdc. -/
@[simp] theorem State.retire2_frame (s : State) :
    (s.retire2).rct = s.rct ∧ (s.retire2).inputs = s.inputs ∧ (s.retire2).now = s.now ∧
      (s.retire2).inReset = s.inReset ∧ (s.retire2).pending = s.pending := by
  unfold State.retire2
  split <;> simp

/-! ## Announce pending, frames, the panel -/

/-- `State.unannouncedPitch` changes no block but ptr, alc, lbi. -/
@[simp] theorem State.unannouncedPitch_frame (s : State) :
    (s.unannouncedPitch).rct = s.rct ∧ (s.unannouncedPitch).clu = s.clu ∧ (s.unannouncedPitch).rol = s.rol ∧
      (s.unannouncedPitch).drc = s.drc ∧ (s.unannouncedPitch).crm = s.crm ∧ (s.unannouncedPitch).mdc = s.mdc ∧
      (s.unannouncedPitch).inputs = s.inputs ∧ (s.unannouncedPitch).now = s.now ∧ (s.unannouncedPitch).inReset = s.inReset ∧
      (s.unannouncedPitch).pending = s.pending := by
  unfold State.unannouncedPitch
  dsimp only
  split <;> simp

/-- `State.endAnnouncePending` changes no block but ptr, alc, lbi. -/
@[simp] theorem State.endAnnouncePending_frame (s : State) :
    (s.endAnnouncePending).rct = s.rct ∧ (s.endAnnouncePending).clu = s.clu ∧ (s.endAnnouncePending).rol = s.rol ∧
      (s.endAnnouncePending).drc = s.drc ∧ (s.endAnnouncePending).crm = s.crm ∧ (s.endAnnouncePending).mdc = s.mdc ∧
      (s.endAnnouncePending).inputs = s.inputs ∧ (s.endAnnouncePending).now = s.now ∧ (s.endAnnouncePending).inReset = s.inReset ∧
      (s.endAnnouncePending).pending = s.pending := by
  unfold State.endAnnouncePending
  dsimp only
  (repeat' split) <;> simp

/-- `State.frameEnd` changes no block but clu, lbi. -/
@[simp] theorem State.frameEnd_frame (s : State) :
    (s.frameEnd).ptr = s.ptr ∧ (s.frameEnd).rct = s.rct ∧ (s.frameEnd).rol = s.rol ∧
      (s.frameEnd).drc = s.drc ∧ (s.frameEnd).crm = s.crm ∧ (s.frameEnd).alc = s.alc ∧
      (s.frameEnd).mdc = s.mdc ∧ (s.frameEnd).inputs = s.inputs ∧ (s.frameEnd).now = s.now ∧
      (s.frameEnd).inReset = s.inReset ∧ (s.frameEnd).pending = s.pending := by
  simp [State.frameEnd]

/-- `State.ownFrameEnd` changes no block but clu, lbi. -/
@[simp] theorem State.ownFrameEnd_frame (s : State) :
    (s.ownFrameEnd).ptr = s.ptr ∧ (s.ownFrameEnd).rct = s.rct ∧ (s.ownFrameEnd).rol = s.rol ∧
      (s.ownFrameEnd).drc = s.drc ∧ (s.ownFrameEnd).crm = s.crm ∧ (s.ownFrameEnd).alc = s.alc ∧
      (s.ownFrameEnd).mdc = s.mdc ∧ (s.ownFrameEnd).inputs = s.inputs ∧ (s.ownFrameEnd).now = s.now ∧
      (s.ownFrameEnd).inReset = s.inReset ∧ (s.ownFrameEnd).pending = s.pending := by
  simp [State.ownFrameEnd]

/-- `State.drive` changes no block but lbi. -/
@[simp] theorem State.drive_frame (s : State) (f : Frame) :
    (s.drive f).ptr = s.ptr ∧ (s.drive f).rct = s.rct ∧ (s.drive f).clu = s.clu ∧
      (s.drive f).rol = s.rol ∧ (s.drive f).drc = s.drc ∧ (s.drive f).crm = s.crm ∧
      (s.drive f).alc = s.alc ∧ (s.drive f).mdc = s.mdc ∧ (s.drive f).inputs = s.inputs ∧
      (s.drive f).now = s.now ∧ (s.drive f).inReset = s.inReset ∧ (s.drive f).pending = s.pending := by
  simp [State.drive]

/-- `State.openClaimReserve` changes no block but lbi. -/
@[simp] theorem State.openClaimReserve_frame (s : State) :
    (s.openClaimReserve).ptr = s.ptr ∧ (s.openClaimReserve).rct = s.rct ∧ (s.openClaimReserve).clu = s.clu ∧
      (s.openClaimReserve).rol = s.rol ∧ (s.openClaimReserve).drc = s.drc ∧ (s.openClaimReserve).crm = s.crm ∧
      (s.openClaimReserve).alc = s.alc ∧ (s.openClaimReserve).mdc = s.mdc ∧ (s.openClaimReserve).inputs = s.inputs ∧
      (s.openClaimReserve).now = s.now ∧ (s.openClaimReserve).inReset = s.inReset ∧ (s.openClaimReserve).pending = s.pending := by
  simp [State.openClaimReserve]

/-- `State.openReclaimReserve` changes no block but lbi. -/
@[simp] theorem State.openReclaimReserve_frame (s : State) :
    (s.openReclaimReserve).ptr = s.ptr ∧ (s.openReclaimReserve).rct = s.rct ∧ (s.openReclaimReserve).clu = s.clu ∧
      (s.openReclaimReserve).rol = s.rol ∧ (s.openReclaimReserve).drc = s.drc ∧ (s.openReclaimReserve).crm = s.crm ∧
      (s.openReclaimReserve).alc = s.alc ∧ (s.openReclaimReserve).mdc = s.mdc ∧ (s.openReclaimReserve).inputs = s.inputs ∧
      (s.openReclaimReserve).now = s.now ∧ (s.openReclaimReserve).inReset = s.inReset ∧ (s.openReclaimReserve).pending = s.pending := by
  simp [State.openReclaimReserve]

/-- `State.badFrame` changes no block but ptr, alc, lbi. -/
@[simp] theorem State.badFrame_frame (s : State) (k : FrameKind) :
    (s.badFrame k).rct = s.rct ∧ (s.badFrame k).clu = s.clu ∧ (s.badFrame k).rol = s.rol ∧
      (s.badFrame k).drc = s.drc ∧ (s.badFrame k).crm = s.crm ∧ (s.badFrame k).mdc = s.mdc ∧
      (s.badFrame k).inputs = s.inputs ∧ (s.badFrame k).now = s.now ∧ (s.badFrame k).inReset = s.inReset ∧
      (s.badFrame k).pending = s.pending := by
  cases k <;> simp [State.badFrame]

/-- `State.refusePulse` changes no block but alc. -/
@[simp] theorem State.refusePulse_frame (s : State) :
    (s.refusePulse).ptr = s.ptr ∧ (s.refusePulse).rct = s.rct ∧ (s.refusePulse).clu = s.clu ∧
      (s.refusePulse).rol = s.rol ∧ (s.refusePulse).drc = s.drc ∧ (s.refusePulse).crm = s.crm ∧
      (s.refusePulse).lbi = s.lbi ∧ (s.refusePulse).mdc = s.mdc ∧ (s.refusePulse).inputs = s.inputs ∧
      (s.refusePulse).now = s.now ∧ (s.refusePulse).inReset = s.inReset ∧ (s.refusePulse).pending = s.pending := by
  simp [State.refusePulse]

end Sys2Proof.Machine
end

