-- ==== Sys2Proof/Laws/Readings.lean ====
section
/-! SUPPORT. What each derived reading of the state depends on: it is unchanged by an update of any other block, and
two states that agree on the blocks it reads agree on it. -/

namespace Sys2Proof.Machine

theorem State.level_congr {s t : State} (halc : t.alc = s.alc) :
    t.level = s.level := by
  simp [State.level, halc]

@[simp] theorem State.level_setPtr (s : State) (x : Tracker) : (s.setPtr x).level = s.level :=
  State.level_congr rfl
@[simp] theorem State.level_setRct (s : State) (x : List Recipe) : (s.setRct x).level = s.level :=
  State.level_congr rfl
@[simp] theorem State.level_setClu (s : State) (x : ClaimUnit) : (s.setClu x).level = s.level :=
  State.level_congr rfl
@[simp] theorem State.level_setRol (s : State) (x : ReofferList) : (s.setRol x).level = s.level :=
  State.level_congr rfl
@[simp] theorem State.level_setDrc (s : State) (x : DropController) : (s.setDrc x).level = s.level :=
  State.level_congr rfl
@[simp] theorem State.level_setCrm (s : State) (x : CradleManager) : (s.setCrm x).level = s.level :=
  State.level_congr rfl
@[simp] theorem State.level_setLbi (s : State) (x : LineBus) : (s.setLbi x).level = s.level :=
  State.level_congr rfl
@[simp] theorem State.level_setMdc (s : State) (x : ModeController) : (s.setMdc x).level = s.level :=
  State.level_congr rfl
@[simp] theorem State.level_setInputs (s : State) (x : Inputs) : (s.setInputs x).level = s.level :=
  State.level_congr rfl
@[simp] theorem State.level_setNow (s : State) (x : Nat) : (s.setNow x).level = s.level :=
  State.level_congr rfl
@[simp] theorem State.level_setInReset (s : State) (x : Bool) : (s.setInReset x).level = s.level :=
  State.level_congr rfl
@[simp] theorem State.level_setPending (s : State) (x : List Instr) : (s.setPending x).level = s.level :=
  State.level_congr rfl

theorem State.stamp_congr {s t : State} (hptr : t.ptr = s.ptr) :
    t.stamp = s.stamp := by
  simp [State.stamp, hptr]

@[simp] theorem State.stamp_setRct (s : State) (x : List Recipe) : (s.setRct x).stamp = s.stamp :=
  State.stamp_congr rfl
@[simp] theorem State.stamp_setClu (s : State) (x : ClaimUnit) : (s.setClu x).stamp = s.stamp :=
  State.stamp_congr rfl
@[simp] theorem State.stamp_setRol (s : State) (x : ReofferList) : (s.setRol x).stamp = s.stamp :=
  State.stamp_congr rfl
@[simp] theorem State.stamp_setDrc (s : State) (x : DropController) : (s.setDrc x).stamp = s.stamp :=
  State.stamp_congr rfl
@[simp] theorem State.stamp_setCrm (s : State) (x : CradleManager) : (s.setCrm x).stamp = s.stamp :=
  State.stamp_congr rfl
@[simp] theorem State.stamp_setAlc (s : State) (x : AlertController) : (s.setAlc x).stamp = s.stamp :=
  State.stamp_congr rfl
@[simp] theorem State.stamp_setLbi (s : State) (x : LineBus) : (s.setLbi x).stamp = s.stamp :=
  State.stamp_congr rfl
@[simp] theorem State.stamp_setMdc (s : State) (x : ModeController) : (s.setMdc x).stamp = s.stamp :=
  State.stamp_congr rfl
@[simp] theorem State.stamp_setInputs (s : State) (x : Inputs) : (s.setInputs x).stamp = s.stamp :=
  State.stamp_congr rfl
@[simp] theorem State.stamp_setNow (s : State) (x : Nat) : (s.setNow x).stamp = s.stamp :=
  State.stamp_congr rfl
@[simp] theorem State.stamp_setInReset (s : State) (x : Bool) : (s.setInReset x).stamp = s.stamp :=
  State.stamp_congr rfl
@[simp] theorem State.stamp_setPending (s : State) (x : List Instr) : (s.setPending x).stamp = s.stamp :=
  State.stamp_congr rfl

theorem State.number_congr {s t : State} (hmdc : t.mdc = s.mdc) :
    t.number = s.number := by
  simp [State.number, hmdc]

@[simp] theorem State.number_setPtr (s : State) (x : Tracker) : (s.setPtr x).number = s.number :=
  State.number_congr rfl
@[simp] theorem State.number_setRct (s : State) (x : List Recipe) : (s.setRct x).number = s.number :=
  State.number_congr rfl
@[simp] theorem State.number_setClu (s : State) (x : ClaimUnit) : (s.setClu x).number = s.number :=
  State.number_congr rfl
@[simp] theorem State.number_setRol (s : State) (x : ReofferList) : (s.setRol x).number = s.number :=
  State.number_congr rfl
@[simp] theorem State.number_setDrc (s : State) (x : DropController) : (s.setDrc x).number = s.number :=
  State.number_congr rfl
@[simp] theorem State.number_setCrm (s : State) (x : CradleManager) : (s.setCrm x).number = s.number :=
  State.number_congr rfl
@[simp] theorem State.number_setAlc (s : State) (x : AlertController) : (s.setAlc x).number = s.number :=
  State.number_congr rfl
@[simp] theorem State.number_setLbi (s : State) (x : LineBus) : (s.setLbi x).number = s.number :=
  State.number_congr rfl
@[simp] theorem State.number_setInputs (s : State) (x : Inputs) : (s.setInputs x).number = s.number :=
  State.number_congr rfl
@[simp] theorem State.number_setNow (s : State) (x : Nat) : (s.setNow x).number = s.number :=
  State.number_congr rfl
@[simp] theorem State.number_setInReset (s : State) (x : Bool) : (s.setInReset x).number = s.number :=
  State.number_congr rfl
@[simp] theorem State.number_setPending (s : State) (x : List Instr) : (s.setPending x).number = s.number :=
  State.number_congr rfl

theorem State.policy_congr {s t : State} (f : Profile → Bool) (hmdc : t.mdc = s.mdc) :
    t.policy f = s.policy f := by
  simp [State.policy, hmdc]

@[simp] theorem State.policy_setPtr (s : State) (x : Tracker) (f : Profile → Bool) : (s.setPtr x).policy f = s.policy f :=
  State.policy_congr f rfl
@[simp] theorem State.policy_setRct (s : State) (x : List Recipe) (f : Profile → Bool) : (s.setRct x).policy f = s.policy f :=
  State.policy_congr f rfl
@[simp] theorem State.policy_setClu (s : State) (x : ClaimUnit) (f : Profile → Bool) : (s.setClu x).policy f = s.policy f :=
  State.policy_congr f rfl
@[simp] theorem State.policy_setRol (s : State) (x : ReofferList) (f : Profile → Bool) : (s.setRol x).policy f = s.policy f :=
  State.policy_congr f rfl
@[simp] theorem State.policy_setDrc (s : State) (x : DropController) (f : Profile → Bool) : (s.setDrc x).policy f = s.policy f :=
  State.policy_congr f rfl
@[simp] theorem State.policy_setCrm (s : State) (x : CradleManager) (f : Profile → Bool) : (s.setCrm x).policy f = s.policy f :=
  State.policy_congr f rfl
@[simp] theorem State.policy_setAlc (s : State) (x : AlertController) (f : Profile → Bool) : (s.setAlc x).policy f = s.policy f :=
  State.policy_congr f rfl
@[simp] theorem State.policy_setLbi (s : State) (x : LineBus) (f : Profile → Bool) : (s.setLbi x).policy f = s.policy f :=
  State.policy_congr f rfl
@[simp] theorem State.policy_setInputs (s : State) (x : Inputs) (f : Profile → Bool) : (s.setInputs x).policy f = s.policy f :=
  State.policy_congr f rfl
@[simp] theorem State.policy_setNow (s : State) (x : Nat) (f : Profile → Bool) : (s.setNow x).policy f = s.policy f :=
  State.policy_congr f rfl
@[simp] theorem State.policy_setInReset (s : State) (x : Bool) (f : Profile → Bool) : (s.setInReset x).policy f = s.policy f :=
  State.policy_congr f rfl
@[simp] theorem State.policy_setPending (s : State) (x : List Instr) (f : Profile → Bool) : (s.setPending x).policy f = s.policy f :=
  State.policy_congr f rfl

theorem State.cradle_congr {s t : State} (c : Cradle) (hcrm : t.crm = s.crm) :
    t.cradle c = s.cradle c := by
  cases c <;> simp [State.cradle, hcrm]

@[simp] theorem State.cradle_setPtr (s : State) (x : Tracker) (c : Cradle) : (s.setPtr x).cradle c = s.cradle c :=
  State.cradle_congr c rfl
@[simp] theorem State.cradle_setRct (s : State) (x : List Recipe) (c : Cradle) : (s.setRct x).cradle c = s.cradle c :=
  State.cradle_congr c rfl
@[simp] theorem State.cradle_setClu (s : State) (x : ClaimUnit) (c : Cradle) : (s.setClu x).cradle c = s.cradle c :=
  State.cradle_congr c rfl
@[simp] theorem State.cradle_setRol (s : State) (x : ReofferList) (c : Cradle) : (s.setRol x).cradle c = s.cradle c :=
  State.cradle_congr c rfl
@[simp] theorem State.cradle_setDrc (s : State) (x : DropController) (c : Cradle) : (s.setDrc x).cradle c = s.cradle c :=
  State.cradle_congr c rfl
@[simp] theorem State.cradle_setAlc (s : State) (x : AlertController) (c : Cradle) : (s.setAlc x).cradle c = s.cradle c :=
  State.cradle_congr c rfl
@[simp] theorem State.cradle_setLbi (s : State) (x : LineBus) (c : Cradle) : (s.setLbi x).cradle c = s.cradle c :=
  State.cradle_congr c rfl
@[simp] theorem State.cradle_setMdc (s : State) (x : ModeController) (c : Cradle) : (s.setMdc x).cradle c = s.cradle c :=
  State.cradle_congr c rfl
@[simp] theorem State.cradle_setInputs (s : State) (x : Inputs) (c : Cradle) : (s.setInputs x).cradle c = s.cradle c :=
  State.cradle_congr c rfl
@[simp] theorem State.cradle_setNow (s : State) (x : Nat) (c : Cradle) : (s.setNow x).cradle c = s.cradle c :=
  State.cradle_congr c rfl
@[simp] theorem State.cradle_setInReset (s : State) (x : Bool) (c : Cradle) : (s.setInReset x).cradle c = s.cradle c :=
  State.cradle_congr c rfl
@[simp] theorem State.cradle_setPending (s : State) (x : List Instr) (c : Cradle) : (s.setPending x).cradle c = s.cradle c :=
  State.cradle_congr c rfl

theorem State.beam_congr {s t : State} (c : Cradle) (hdrc : t.drc = s.drc) :
    t.beam c = s.beam c := by
  cases c <;> simp [State.beam, hdrc]

@[simp] theorem State.beam_setPtr (s : State) (x : Tracker) (c : Cradle) : (s.setPtr x).beam c = s.beam c :=
  State.beam_congr c rfl
@[simp] theorem State.beam_setRct (s : State) (x : List Recipe) (c : Cradle) : (s.setRct x).beam c = s.beam c :=
  State.beam_congr c rfl
@[simp] theorem State.beam_setClu (s : State) (x : ClaimUnit) (c : Cradle) : (s.setClu x).beam c = s.beam c :=
  State.beam_congr c rfl
@[simp] theorem State.beam_setRol (s : State) (x : ReofferList) (c : Cradle) : (s.setRol x).beam c = s.beam c :=
  State.beam_congr c rfl
@[simp] theorem State.beam_setCrm (s : State) (x : CradleManager) (c : Cradle) : (s.setCrm x).beam c = s.beam c :=
  State.beam_congr c rfl
@[simp] theorem State.beam_setAlc (s : State) (x : AlertController) (c : Cradle) : (s.setAlc x).beam c = s.beam c :=
  State.beam_congr c rfl
@[simp] theorem State.beam_setLbi (s : State) (x : LineBus) (c : Cradle) : (s.setLbi x).beam c = s.beam c :=
  State.beam_congr c rfl
@[simp] theorem State.beam_setMdc (s : State) (x : ModeController) (c : Cradle) : (s.setMdc x).beam c = s.beam c :=
  State.beam_congr c rfl
@[simp] theorem State.beam_setInputs (s : State) (x : Inputs) (c : Cradle) : (s.setInputs x).beam c = s.beam c :=
  State.beam_congr c rfl
@[simp] theorem State.beam_setNow (s : State) (x : Nat) (c : Cradle) : (s.setNow x).beam c = s.beam c :=
  State.beam_congr c rfl
@[simp] theorem State.beam_setInReset (s : State) (x : Bool) (c : Cradle) : (s.setInReset x).beam c = s.beam c :=
  State.beam_congr c rfl
@[simp] theorem State.beam_setPending (s : State) (x : List Instr) (c : Cradle) : (s.setPending x).beam c = s.beam c :=
  State.beam_congr c rfl

theorem State.drivingClaim_congr {s t : State} (hlbi : t.lbi = s.lbi) :
    t.drivingClaim = s.drivingClaim := by
  simp [State.drivingClaim, hlbi]

@[simp] theorem State.drivingClaim_setPtr (s : State) (x : Tracker) : (s.setPtr x).drivingClaim = s.drivingClaim :=
  State.drivingClaim_congr rfl
@[simp] theorem State.drivingClaim_setRct (s : State) (x : List Recipe) : (s.setRct x).drivingClaim = s.drivingClaim :=
  State.drivingClaim_congr rfl
@[simp] theorem State.drivingClaim_setClu (s : State) (x : ClaimUnit) : (s.setClu x).drivingClaim = s.drivingClaim :=
  State.drivingClaim_congr rfl
@[simp] theorem State.drivingClaim_setRol (s : State) (x : ReofferList) : (s.setRol x).drivingClaim = s.drivingClaim :=
  State.drivingClaim_congr rfl
@[simp] theorem State.drivingClaim_setDrc (s : State) (x : DropController) : (s.setDrc x).drivingClaim = s.drivingClaim :=
  State.drivingClaim_congr rfl
@[simp] theorem State.drivingClaim_setCrm (s : State) (x : CradleManager) : (s.setCrm x).drivingClaim = s.drivingClaim :=
  State.drivingClaim_congr rfl
@[simp] theorem State.drivingClaim_setAlc (s : State) (x : AlertController) : (s.setAlc x).drivingClaim = s.drivingClaim :=
  State.drivingClaim_congr rfl
@[simp] theorem State.drivingClaim_setMdc (s : State) (x : ModeController) : (s.setMdc x).drivingClaim = s.drivingClaim :=
  State.drivingClaim_congr rfl
@[simp] theorem State.drivingClaim_setInputs (s : State) (x : Inputs) : (s.setInputs x).drivingClaim = s.drivingClaim :=
  State.drivingClaim_congr rfl
@[simp] theorem State.drivingClaim_setNow (s : State) (x : Nat) : (s.setNow x).drivingClaim = s.drivingClaim :=
  State.drivingClaim_congr rfl
@[simp] theorem State.drivingClaim_setInReset (s : State) (x : Bool) : (s.setInReset x).drivingClaim = s.drivingClaim :=
  State.drivingClaim_congr rfl
@[simp] theorem State.drivingClaim_setPending (s : State) (x : List Instr) : (s.setPending x).drivingClaim = s.drivingClaim :=
  State.drivingClaim_congr rfl

theorem State.drivingAlert_congr {s t : State} (hlbi : t.lbi = s.lbi) :
    t.drivingAlert = s.drivingAlert := by
  simp [State.drivingAlert, hlbi]

@[simp] theorem State.drivingAlert_setPtr (s : State) (x : Tracker) : (s.setPtr x).drivingAlert = s.drivingAlert :=
  State.drivingAlert_congr rfl
@[simp] theorem State.drivingAlert_setRct (s : State) (x : List Recipe) : (s.setRct x).drivingAlert = s.drivingAlert :=
  State.drivingAlert_congr rfl
@[simp] theorem State.drivingAlert_setClu (s : State) (x : ClaimUnit) : (s.setClu x).drivingAlert = s.drivingAlert :=
  State.drivingAlert_congr rfl
@[simp] theorem State.drivingAlert_setRol (s : State) (x : ReofferList) : (s.setRol x).drivingAlert = s.drivingAlert :=
  State.drivingAlert_congr rfl
@[simp] theorem State.drivingAlert_setDrc (s : State) (x : DropController) : (s.setDrc x).drivingAlert = s.drivingAlert :=
  State.drivingAlert_congr rfl
@[simp] theorem State.drivingAlert_setCrm (s : State) (x : CradleManager) : (s.setCrm x).drivingAlert = s.drivingAlert :=
  State.drivingAlert_congr rfl
@[simp] theorem State.drivingAlert_setAlc (s : State) (x : AlertController) : (s.setAlc x).drivingAlert = s.drivingAlert :=
  State.drivingAlert_congr rfl
@[simp] theorem State.drivingAlert_setMdc (s : State) (x : ModeController) : (s.setMdc x).drivingAlert = s.drivingAlert :=
  State.drivingAlert_congr rfl
@[simp] theorem State.drivingAlert_setInputs (s : State) (x : Inputs) : (s.setInputs x).drivingAlert = s.drivingAlert :=
  State.drivingAlert_congr rfl
@[simp] theorem State.drivingAlert_setNow (s : State) (x : Nat) : (s.setNow x).drivingAlert = s.drivingAlert :=
  State.drivingAlert_congr rfl
@[simp] theorem State.drivingAlert_setInReset (s : State) (x : Bool) : (s.setInReset x).drivingAlert = s.drivingAlert :=
  State.drivingAlert_congr rfl
@[simp] theorem State.drivingAlert_setPending (s : State) (x : List Instr) : (s.setPending x).drivingAlert = s.drivingAlert :=
  State.drivingAlert_congr rfl

theorem State.receiving_congr {s t : State} (hlbi : t.lbi = s.lbi) :
    t.receiving = s.receiving := by
  simp [State.receiving, hlbi]

@[simp] theorem State.receiving_setPtr (s : State) (x : Tracker) : (s.setPtr x).receiving = s.receiving :=
  State.receiving_congr rfl
@[simp] theorem State.receiving_setRct (s : State) (x : List Recipe) : (s.setRct x).receiving = s.receiving :=
  State.receiving_congr rfl
@[simp] theorem State.receiving_setClu (s : State) (x : ClaimUnit) : (s.setClu x).receiving = s.receiving :=
  State.receiving_congr rfl
@[simp] theorem State.receiving_setRol (s : State) (x : ReofferList) : (s.setRol x).receiving = s.receiving :=
  State.receiving_congr rfl
@[simp] theorem State.receiving_setDrc (s : State) (x : DropController) : (s.setDrc x).receiving = s.receiving :=
  State.receiving_congr rfl
@[simp] theorem State.receiving_setCrm (s : State) (x : CradleManager) : (s.setCrm x).receiving = s.receiving :=
  State.receiving_congr rfl
@[simp] theorem State.receiving_setAlc (s : State) (x : AlertController) : (s.setAlc x).receiving = s.receiving :=
  State.receiving_congr rfl
@[simp] theorem State.receiving_setMdc (s : State) (x : ModeController) : (s.setMdc x).receiving = s.receiving :=
  State.receiving_congr rfl
@[simp] theorem State.receiving_setInputs (s : State) (x : Inputs) : (s.setInputs x).receiving = s.receiving :=
  State.receiving_congr rfl
@[simp] theorem State.receiving_setNow (s : State) (x : Nat) : (s.setNow x).receiving = s.receiving :=
  State.receiving_congr rfl
@[simp] theorem State.receiving_setInReset (s : State) (x : Bool) : (s.setInReset x).receiving = s.receiving :=
  State.receiving_congr rfl
@[simp] theorem State.receiving_setPending (s : State) (x : List Instr) : (s.setPending x).receiving = s.receiving :=
  State.receiving_congr rfl

theorem State.holdDrive_congr {s t : State} (hptr : t.ptr = s.ptr) :
    t.holdDrive = s.holdDrive := by
  simp [State.holdDrive, hptr]

@[simp] theorem State.holdDrive_setRct (s : State) (x : List Recipe) : (s.setRct x).holdDrive = s.holdDrive :=
  State.holdDrive_congr rfl
@[simp] theorem State.holdDrive_setClu (s : State) (x : ClaimUnit) : (s.setClu x).holdDrive = s.holdDrive :=
  State.holdDrive_congr rfl
@[simp] theorem State.holdDrive_setRol (s : State) (x : ReofferList) : (s.setRol x).holdDrive = s.holdDrive :=
  State.holdDrive_congr rfl
@[simp] theorem State.holdDrive_setDrc (s : State) (x : DropController) : (s.setDrc x).holdDrive = s.holdDrive :=
  State.holdDrive_congr rfl
@[simp] theorem State.holdDrive_setCrm (s : State) (x : CradleManager) : (s.setCrm x).holdDrive = s.holdDrive :=
  State.holdDrive_congr rfl
@[simp] theorem State.holdDrive_setAlc (s : State) (x : AlertController) : (s.setAlc x).holdDrive = s.holdDrive :=
  State.holdDrive_congr rfl
@[simp] theorem State.holdDrive_setLbi (s : State) (x : LineBus) : (s.setLbi x).holdDrive = s.holdDrive :=
  State.holdDrive_congr rfl
@[simp] theorem State.holdDrive_setMdc (s : State) (x : ModeController) : (s.setMdc x).holdDrive = s.holdDrive :=
  State.holdDrive_congr rfl
@[simp] theorem State.holdDrive_setInputs (s : State) (x : Inputs) : (s.setInputs x).holdDrive = s.holdDrive :=
  State.holdDrive_congr rfl
@[simp] theorem State.holdDrive_setNow (s : State) (x : Nat) : (s.setNow x).holdDrive = s.holdDrive :=
  State.holdDrive_congr rfl
@[simp] theorem State.holdDrive_setInReset (s : State) (x : Bool) : (s.setInReset x).holdDrive = s.holdDrive :=
  State.holdDrive_congr rfl
@[simp] theorem State.holdDrive_setPending (s : State) (x : List Instr) : (s.setPending x).holdDrive = s.holdDrive :=
  State.holdDrive_congr rfl

theorem State.someStale_congr {s t : State} (hcrm : t.crm = s.crm) :
    t.someStale = s.someStale := by
  simp [State.someStale, hcrm]

@[simp] theorem State.someStale_setPtr (s : State) (x : Tracker) : (s.setPtr x).someStale = s.someStale :=
  State.someStale_congr rfl
@[simp] theorem State.someStale_setRct (s : State) (x : List Recipe) : (s.setRct x).someStale = s.someStale :=
  State.someStale_congr rfl
@[simp] theorem State.someStale_setClu (s : State) (x : ClaimUnit) : (s.setClu x).someStale = s.someStale :=
  State.someStale_congr rfl
@[simp] theorem State.someStale_setRol (s : State) (x : ReofferList) : (s.setRol x).someStale = s.someStale :=
  State.someStale_congr rfl
@[simp] theorem State.someStale_setDrc (s : State) (x : DropController) : (s.setDrc x).someStale = s.someStale :=
  State.someStale_congr rfl
@[simp] theorem State.someStale_setAlc (s : State) (x : AlertController) : (s.setAlc x).someStale = s.someStale :=
  State.someStale_congr rfl
@[simp] theorem State.someStale_setLbi (s : State) (x : LineBus) : (s.setLbi x).someStale = s.someStale :=
  State.someStale_congr rfl
@[simp] theorem State.someStale_setMdc (s : State) (x : ModeController) : (s.setMdc x).someStale = s.someStale :=
  State.someStale_congr rfl
@[simp] theorem State.someStale_setInputs (s : State) (x : Inputs) : (s.setInputs x).someStale = s.someStale :=
  State.someStale_congr rfl
@[simp] theorem State.someStale_setNow (s : State) (x : Nat) : (s.setNow x).someStale = s.someStale :=
  State.someStale_congr rfl
@[simp] theorem State.someStale_setInReset (s : State) (x : Bool) : (s.setInReset x).someStale = s.someStale :=
  State.someStale_congr rfl
@[simp] theorem State.someStale_setPending (s : State) (x : List Instr) : (s.setPending x).someStale = s.someStale :=
  State.someStale_congr rfl

theorem State.someBuilding_congr {s t : State} (hcrm : t.crm = s.crm) :
    t.someBuilding = s.someBuilding := by
  simp [State.someBuilding, hcrm]

@[simp] theorem State.someBuilding_setPtr (s : State) (x : Tracker) : (s.setPtr x).someBuilding = s.someBuilding :=
  State.someBuilding_congr rfl
@[simp] theorem State.someBuilding_setRct (s : State) (x : List Recipe) : (s.setRct x).someBuilding = s.someBuilding :=
  State.someBuilding_congr rfl
@[simp] theorem State.someBuilding_setClu (s : State) (x : ClaimUnit) : (s.setClu x).someBuilding = s.someBuilding :=
  State.someBuilding_congr rfl
@[simp] theorem State.someBuilding_setRol (s : State) (x : ReofferList) : (s.setRol x).someBuilding = s.someBuilding :=
  State.someBuilding_congr rfl
@[simp] theorem State.someBuilding_setDrc (s : State) (x : DropController) : (s.setDrc x).someBuilding = s.someBuilding :=
  State.someBuilding_congr rfl
@[simp] theorem State.someBuilding_setAlc (s : State) (x : AlertController) : (s.setAlc x).someBuilding = s.someBuilding :=
  State.someBuilding_congr rfl
@[simp] theorem State.someBuilding_setLbi (s : State) (x : LineBus) : (s.setLbi x).someBuilding = s.someBuilding :=
  State.someBuilding_congr rfl
@[simp] theorem State.someBuilding_setMdc (s : State) (x : ModeController) : (s.setMdc x).someBuilding = s.someBuilding :=
  State.someBuilding_congr rfl
@[simp] theorem State.someBuilding_setInputs (s : State) (x : Inputs) : (s.setInputs x).someBuilding = s.someBuilding :=
  State.someBuilding_congr rfl
@[simp] theorem State.someBuilding_setNow (s : State) (x : Nat) : (s.setNow x).someBuilding = s.someBuilding :=
  State.someBuilding_congr rfl
@[simp] theorem State.someBuilding_setInReset (s : State) (x : Bool) : (s.setInReset x).someBuilding = s.someBuilding :=
  State.someBuilding_congr rfl
@[simp] theorem State.someBuilding_setPending (s : State) (x : List Instr) : (s.setPending x).someBuilding = s.someBuilding :=
  State.someBuilding_congr rfl

theorem State.claimCount_congr {s t : State} (c : Cradle) (hdrc : t.drc = s.drc) :
    t.claimCount c = s.claimCount c := by
  simp [State.claimCount, hdrc]

@[simp] theorem State.claimCount_setPtr (s : State) (x : Tracker) (c : Cradle) : (s.setPtr x).claimCount c = s.claimCount c :=
  State.claimCount_congr c rfl
@[simp] theorem State.claimCount_setRct (s : State) (x : List Recipe) (c : Cradle) : (s.setRct x).claimCount c = s.claimCount c :=
  State.claimCount_congr c rfl
@[simp] theorem State.claimCount_setClu (s : State) (x : ClaimUnit) (c : Cradle) : (s.setClu x).claimCount c = s.claimCount c :=
  State.claimCount_congr c rfl
@[simp] theorem State.claimCount_setRol (s : State) (x : ReofferList) (c : Cradle) : (s.setRol x).claimCount c = s.claimCount c :=
  State.claimCount_congr c rfl
@[simp] theorem State.claimCount_setCrm (s : State) (x : CradleManager) (c : Cradle) : (s.setCrm x).claimCount c = s.claimCount c :=
  State.claimCount_congr c rfl
@[simp] theorem State.claimCount_setAlc (s : State) (x : AlertController) (c : Cradle) : (s.setAlc x).claimCount c = s.claimCount c :=
  State.claimCount_congr c rfl
@[simp] theorem State.claimCount_setLbi (s : State) (x : LineBus) (c : Cradle) : (s.setLbi x).claimCount c = s.claimCount c :=
  State.claimCount_congr c rfl
@[simp] theorem State.claimCount_setMdc (s : State) (x : ModeController) (c : Cradle) : (s.setMdc x).claimCount c = s.claimCount c :=
  State.claimCount_congr c rfl
@[simp] theorem State.claimCount_setInputs (s : State) (x : Inputs) (c : Cradle) : (s.setInputs x).claimCount c = s.claimCount c :=
  State.claimCount_congr c rfl
@[simp] theorem State.claimCount_setNow (s : State) (x : Nat) (c : Cradle) : (s.setNow x).claimCount c = s.claimCount c :=
  State.claimCount_congr c rfl
@[simp] theorem State.claimCount_setInReset (s : State) (x : Bool) (c : Cradle) : (s.setInReset x).claimCount c = s.claimCount c :=
  State.claimCount_congr c rfl
@[simp] theorem State.claimCount_setPending (s : State) (x : List Instr) (c : Cradle) : (s.setPending x).claimCount c = s.claimCount c :=
  State.claimCount_congr c rfl

theorem State.committedLengths_congr {s t : State} (c : Cradle) (hdrc : t.drc = s.drc) :
    t.committedLengths c = s.committedLengths c := by
  simp [State.committedLengths, hdrc]

@[simp] theorem State.committedLengths_setPtr (s : State) (x : Tracker) (c : Cradle) : (s.setPtr x).committedLengths c = s.committedLengths c :=
  State.committedLengths_congr c rfl
@[simp] theorem State.committedLengths_setRct (s : State) (x : List Recipe) (c : Cradle) : (s.setRct x).committedLengths c = s.committedLengths c :=
  State.committedLengths_congr c rfl
@[simp] theorem State.committedLengths_setClu (s : State) (x : ClaimUnit) (c : Cradle) : (s.setClu x).committedLengths c = s.committedLengths c :=
  State.committedLengths_congr c rfl
@[simp] theorem State.committedLengths_setRol (s : State) (x : ReofferList) (c : Cradle) : (s.setRol x).committedLengths c = s.committedLengths c :=
  State.committedLengths_congr c rfl
@[simp] theorem State.committedLengths_setCrm (s : State) (x : CradleManager) (c : Cradle) : (s.setCrm x).committedLengths c = s.committedLengths c :=
  State.committedLengths_congr c rfl
@[simp] theorem State.committedLengths_setAlc (s : State) (x : AlertController) (c : Cradle) : (s.setAlc x).committedLengths c = s.committedLengths c :=
  State.committedLengths_congr c rfl
@[simp] theorem State.committedLengths_setLbi (s : State) (x : LineBus) (c : Cradle) : (s.setLbi x).committedLengths c = s.committedLengths c :=
  State.committedLengths_congr c rfl
@[simp] theorem State.committedLengths_setMdc (s : State) (x : ModeController) (c : Cradle) : (s.setMdc x).committedLengths c = s.committedLengths c :=
  State.committedLengths_congr c rfl
@[simp] theorem State.committedLengths_setInputs (s : State) (x : Inputs) (c : Cradle) : (s.setInputs x).committedLengths c = s.committedLengths c :=
  State.committedLengths_congr c rfl
@[simp] theorem State.committedLengths_setNow (s : State) (x : Nat) (c : Cradle) : (s.setNow x).committedLengths c = s.committedLengths c :=
  State.committedLengths_congr c rfl
@[simp] theorem State.committedLengths_setInReset (s : State) (x : Bool) (c : Cradle) : (s.setInReset x).committedLengths c = s.committedLengths c :=
  State.committedLengths_congr c rfl
@[simp] theorem State.committedLengths_setPending (s : State) (x : List Instr) (c : Cradle) : (s.setPending x).committedLengths c = s.committedLengths c :=
  State.committedLengths_congr c rfl

theorem State.hasClaim_congr {s t : State} (g : Tag) (hdrc : t.drc = s.drc) :
    t.hasClaim g = s.hasClaim g := by
  simp [State.hasClaim, hdrc]

@[simp] theorem State.hasClaim_setPtr (s : State) (x : Tracker) (g : Tag) : (s.setPtr x).hasClaim g = s.hasClaim g :=
  State.hasClaim_congr g rfl
@[simp] theorem State.hasClaim_setRct (s : State) (x : List Recipe) (g : Tag) : (s.setRct x).hasClaim g = s.hasClaim g :=
  State.hasClaim_congr g rfl
@[simp] theorem State.hasClaim_setClu (s : State) (x : ClaimUnit) (g : Tag) : (s.setClu x).hasClaim g = s.hasClaim g :=
  State.hasClaim_congr g rfl
@[simp] theorem State.hasClaim_setRol (s : State) (x : ReofferList) (g : Tag) : (s.setRol x).hasClaim g = s.hasClaim g :=
  State.hasClaim_congr g rfl
@[simp] theorem State.hasClaim_setCrm (s : State) (x : CradleManager) (g : Tag) : (s.setCrm x).hasClaim g = s.hasClaim g :=
  State.hasClaim_congr g rfl
@[simp] theorem State.hasClaim_setAlc (s : State) (x : AlertController) (g : Tag) : (s.setAlc x).hasClaim g = s.hasClaim g :=
  State.hasClaim_congr g rfl
@[simp] theorem State.hasClaim_setLbi (s : State) (x : LineBus) (g : Tag) : (s.setLbi x).hasClaim g = s.hasClaim g :=
  State.hasClaim_congr g rfl
@[simp] theorem State.hasClaim_setMdc (s : State) (x : ModeController) (g : Tag) : (s.setMdc x).hasClaim g = s.hasClaim g :=
  State.hasClaim_congr g rfl
@[simp] theorem State.hasClaim_setInputs (s : State) (x : Inputs) (g : Tag) : (s.setInputs x).hasClaim g = s.hasClaim g :=
  State.hasClaim_congr g rfl
@[simp] theorem State.hasClaim_setNow (s : State) (x : Nat) (g : Tag) : (s.setNow x).hasClaim g = s.hasClaim g :=
  State.hasClaim_congr g rfl
@[simp] theorem State.hasClaim_setInReset (s : State) (x : Bool) (g : Tag) : (s.setInReset x).hasClaim g = s.hasClaim g :=
  State.hasClaim_congr g rfl
@[simp] theorem State.hasClaim_setPending (s : State) (x : List Instr) (g : Tag) : (s.setPending x).hasClaim g = s.hasClaim g :=
  State.hasClaim_congr g rfl

theorem State.hasReoffer_congr {s t : State} (g : Tag) (hrol : t.rol = s.rol) :
    t.hasReoffer g = s.hasReoffer g := by
  simp [State.hasReoffer, hrol]

@[simp] theorem State.hasReoffer_setPtr (s : State) (x : Tracker) (g : Tag) : (s.setPtr x).hasReoffer g = s.hasReoffer g :=
  State.hasReoffer_congr g rfl
@[simp] theorem State.hasReoffer_setRct (s : State) (x : List Recipe) (g : Tag) : (s.setRct x).hasReoffer g = s.hasReoffer g :=
  State.hasReoffer_congr g rfl
@[simp] theorem State.hasReoffer_setClu (s : State) (x : ClaimUnit) (g : Tag) : (s.setClu x).hasReoffer g = s.hasReoffer g :=
  State.hasReoffer_congr g rfl
@[simp] theorem State.hasReoffer_setDrc (s : State) (x : DropController) (g : Tag) : (s.setDrc x).hasReoffer g = s.hasReoffer g :=
  State.hasReoffer_congr g rfl
@[simp] theorem State.hasReoffer_setCrm (s : State) (x : CradleManager) (g : Tag) : (s.setCrm x).hasReoffer g = s.hasReoffer g :=
  State.hasReoffer_congr g rfl
@[simp] theorem State.hasReoffer_setAlc (s : State) (x : AlertController) (g : Tag) : (s.setAlc x).hasReoffer g = s.hasReoffer g :=
  State.hasReoffer_congr g rfl
@[simp] theorem State.hasReoffer_setLbi (s : State) (x : LineBus) (g : Tag) : (s.setLbi x).hasReoffer g = s.hasReoffer g :=
  State.hasReoffer_congr g rfl
@[simp] theorem State.hasReoffer_setMdc (s : State) (x : ModeController) (g : Tag) : (s.setMdc x).hasReoffer g = s.hasReoffer g :=
  State.hasReoffer_congr g rfl
@[simp] theorem State.hasReoffer_setInputs (s : State) (x : Inputs) (g : Tag) : (s.setInputs x).hasReoffer g = s.hasReoffer g :=
  State.hasReoffer_congr g rfl
@[simp] theorem State.hasReoffer_setNow (s : State) (x : Nat) (g : Tag) : (s.setNow x).hasReoffer g = s.hasReoffer g :=
  State.hasReoffer_congr g rfl
@[simp] theorem State.hasReoffer_setInReset (s : State) (x : Bool) (g : Tag) : (s.setInReset x).hasReoffer g = s.hasReoffer g :=
  State.hasReoffer_congr g rfl
@[simp] theorem State.hasReoffer_setPending (s : State) (x : List Instr) (g : Tag) : (s.setPending x).hasReoffer g = s.hasReoffer g :=
  State.hasReoffer_congr g rfl

theorem State.expired_congr {s t : State} (g : Tag) (hptr : t.ptr = s.ptr) (hmdc : t.mdc = s.mdc) :
    t.expired g = s.expired g := by
  simp [State.expired, State.posTest, State.posOf, hptr, hmdc]

@[simp] theorem State.expired_setRct (s : State) (x : List Recipe) (g : Tag) : (s.setRct x).expired g = s.expired g :=
  State.expired_congr g rfl rfl
@[simp] theorem State.expired_setClu (s : State) (x : ClaimUnit) (g : Tag) : (s.setClu x).expired g = s.expired g :=
  State.expired_congr g rfl rfl
@[simp] theorem State.expired_setRol (s : State) (x : ReofferList) (g : Tag) : (s.setRol x).expired g = s.expired g :=
  State.expired_congr g rfl rfl
@[simp] theorem State.expired_setDrc (s : State) (x : DropController) (g : Tag) : (s.setDrc x).expired g = s.expired g :=
  State.expired_congr g rfl rfl
@[simp] theorem State.expired_setCrm (s : State) (x : CradleManager) (g : Tag) : (s.setCrm x).expired g = s.expired g :=
  State.expired_congr g rfl rfl
@[simp] theorem State.expired_setAlc (s : State) (x : AlertController) (g : Tag) : (s.setAlc x).expired g = s.expired g :=
  State.expired_congr g rfl rfl
@[simp] theorem State.expired_setLbi (s : State) (x : LineBus) (g : Tag) : (s.setLbi x).expired g = s.expired g :=
  State.expired_congr g rfl rfl
@[simp] theorem State.expired_setInputs (s : State) (x : Inputs) (g : Tag) : (s.setInputs x).expired g = s.expired g :=
  State.expired_congr g rfl rfl
@[simp] theorem State.expired_setNow (s : State) (x : Nat) (g : Tag) : (s.setNow x).expired g = s.expired g :=
  State.expired_congr g rfl rfl
@[simp] theorem State.expired_setInReset (s : State) (x : Bool) (g : Tag) : (s.setInReset x).expired g = s.expired g :=
  State.expired_congr g rfl rfl
@[simp] theorem State.expired_setPending (s : State) (x : List Instr) (g : Tag) : (s.setPending x).expired g = s.expired g :=
  State.expired_congr g rfl rfl

theorem State.blockedNow_congr {s t : State} (hmdc : t.mdc = s.mdc) (hcrm : t.crm = s.crm) :
    t.blockedNow = s.blockedNow := by
  simp [State.blockedNow, hmdc, hcrm]

@[simp] theorem State.blockedNow_setPtr (s : State) (x : Tracker) : (s.setPtr x).blockedNow = s.blockedNow :=
  State.blockedNow_congr rfl rfl
@[simp] theorem State.blockedNow_setRct (s : State) (x : List Recipe) : (s.setRct x).blockedNow = s.blockedNow :=
  State.blockedNow_congr rfl rfl
@[simp] theorem State.blockedNow_setClu (s : State) (x : ClaimUnit) : (s.setClu x).blockedNow = s.blockedNow :=
  State.blockedNow_congr rfl rfl
@[simp] theorem State.blockedNow_setRol (s : State) (x : ReofferList) : (s.setRol x).blockedNow = s.blockedNow :=
  State.blockedNow_congr rfl rfl
@[simp] theorem State.blockedNow_setDrc (s : State) (x : DropController) : (s.setDrc x).blockedNow = s.blockedNow :=
  State.blockedNow_congr rfl rfl
@[simp] theorem State.blockedNow_setAlc (s : State) (x : AlertController) : (s.setAlc x).blockedNow = s.blockedNow :=
  State.blockedNow_congr rfl rfl
@[simp] theorem State.blockedNow_setLbi (s : State) (x : LineBus) : (s.setLbi x).blockedNow = s.blockedNow :=
  State.blockedNow_congr rfl rfl
@[simp] theorem State.blockedNow_setInputs (s : State) (x : Inputs) : (s.setInputs x).blockedNow = s.blockedNow :=
  State.blockedNow_congr rfl rfl
@[simp] theorem State.blockedNow_setNow (s : State) (x : Nat) : (s.setNow x).blockedNow = s.blockedNow :=
  State.blockedNow_congr rfl rfl
@[simp] theorem State.blockedNow_setInReset (s : State) (x : Bool) : (s.setInReset x).blockedNow = s.blockedNow :=
  State.blockedNow_congr rfl rfl
@[simp] theorem State.blockedNow_setPending (s : State) (x : List Instr) : (s.setPending x).blockedNow = s.blockedNow :=
  State.blockedNow_congr rfl rfl

theorem State.idleNow_congr {s t : State} (hmdc : t.mdc = s.mdc) (hcrm : t.crm = s.crm) (hrct : t.rct = s.rct) :
    t.idleNow = s.idleNow := by
  simp [State.idleNow, State.someBuilding, hmdc, hcrm, hrct]

@[simp] theorem State.idleNow_setPtr (s : State) (x : Tracker) : (s.setPtr x).idleNow = s.idleNow :=
  State.idleNow_congr rfl rfl rfl
@[simp] theorem State.idleNow_setClu (s : State) (x : ClaimUnit) : (s.setClu x).idleNow = s.idleNow :=
  State.idleNow_congr rfl rfl rfl
@[simp] theorem State.idleNow_setRol (s : State) (x : ReofferList) : (s.setRol x).idleNow = s.idleNow :=
  State.idleNow_congr rfl rfl rfl
@[simp] theorem State.idleNow_setDrc (s : State) (x : DropController) : (s.setDrc x).idleNow = s.idleNow :=
  State.idleNow_congr rfl rfl rfl
@[simp] theorem State.idleNow_setAlc (s : State) (x : AlertController) : (s.setAlc x).idleNow = s.idleNow :=
  State.idleNow_congr rfl rfl rfl
@[simp] theorem State.idleNow_setLbi (s : State) (x : LineBus) : (s.setLbi x).idleNow = s.idleNow :=
  State.idleNow_congr rfl rfl rfl
@[simp] theorem State.idleNow_setInputs (s : State) (x : Inputs) : (s.setInputs x).idleNow = s.idleNow :=
  State.idleNow_congr rfl rfl rfl
@[simp] theorem State.idleNow_setNow (s : State) (x : Nat) : (s.setNow x).idleNow = s.idleNow :=
  State.idleNow_congr rfl rfl rfl
@[simp] theorem State.idleNow_setInReset (s : State) (x : Bool) : (s.setInReset x).idleNow = s.idleNow :=
  State.idleNow_congr rfl rfl rfl
@[simp] theorem State.idleNow_setPending (s : State) (x : List Instr) : (s.setPending x).idleNow = s.idleNow :=
  State.idleNow_congr rfl rfl rfl

theorem State.standing_congr {s t : State} (halc : t.alc = s.alc) :
    t.standing = s.standing := by
  simp [State.standing, halc]

@[simp] theorem State.standing_setPtr (s : State) (x : Tracker) : (s.setPtr x).standing = s.standing :=
  State.standing_congr rfl
@[simp] theorem State.standing_setRct (s : State) (x : List Recipe) : (s.setRct x).standing = s.standing :=
  State.standing_congr rfl
@[simp] theorem State.standing_setClu (s : State) (x : ClaimUnit) : (s.setClu x).standing = s.standing :=
  State.standing_congr rfl
@[simp] theorem State.standing_setRol (s : State) (x : ReofferList) : (s.setRol x).standing = s.standing :=
  State.standing_congr rfl
@[simp] theorem State.standing_setDrc (s : State) (x : DropController) : (s.setDrc x).standing = s.standing :=
  State.standing_congr rfl
@[simp] theorem State.standing_setCrm (s : State) (x : CradleManager) : (s.setCrm x).standing = s.standing :=
  State.standing_congr rfl
@[simp] theorem State.standing_setLbi (s : State) (x : LineBus) : (s.setLbi x).standing = s.standing :=
  State.standing_congr rfl
@[simp] theorem State.standing_setMdc (s : State) (x : ModeController) : (s.setMdc x).standing = s.standing :=
  State.standing_congr rfl
@[simp] theorem State.standing_setInputs (s : State) (x : Inputs) : (s.setInputs x).standing = s.standing :=
  State.standing_congr rfl
@[simp] theorem State.standing_setNow (s : State) (x : Nat) : (s.setNow x).standing = s.standing :=
  State.standing_congr rfl
@[simp] theorem State.standing_setInReset (s : State) (x : Bool) : (s.setInReset x).standing = s.standing :=
  State.standing_congr rfl
@[simp] theorem State.standing_setPending (s : State) (x : List Instr) : (s.setPending x).standing = s.standing :=
  State.standing_congr rfl

theorem State.qualifier_congr {s t : State} (p : Pin) (hinputs : t.inputs = s.inputs) :
    t.qualifier p = s.qualifier p := by
  simp [State.qualifier, hinputs]

@[simp] theorem State.qualifier_setPtr (s : State) (x : Tracker) (p : Pin) : (s.setPtr x).qualifier p = s.qualifier p :=
  State.qualifier_congr p rfl
@[simp] theorem State.qualifier_setRct (s : State) (x : List Recipe) (p : Pin) : (s.setRct x).qualifier p = s.qualifier p :=
  State.qualifier_congr p rfl
@[simp] theorem State.qualifier_setClu (s : State) (x : ClaimUnit) (p : Pin) : (s.setClu x).qualifier p = s.qualifier p :=
  State.qualifier_congr p rfl
@[simp] theorem State.qualifier_setRol (s : State) (x : ReofferList) (p : Pin) : (s.setRol x).qualifier p = s.qualifier p :=
  State.qualifier_congr p rfl
@[simp] theorem State.qualifier_setDrc (s : State) (x : DropController) (p : Pin) : (s.setDrc x).qualifier p = s.qualifier p :=
  State.qualifier_congr p rfl
@[simp] theorem State.qualifier_setCrm (s : State) (x : CradleManager) (p : Pin) : (s.setCrm x).qualifier p = s.qualifier p :=
  State.qualifier_congr p rfl
@[simp] theorem State.qualifier_setAlc (s : State) (x : AlertController) (p : Pin) : (s.setAlc x).qualifier p = s.qualifier p :=
  State.qualifier_congr p rfl
@[simp] theorem State.qualifier_setLbi (s : State) (x : LineBus) (p : Pin) : (s.setLbi x).qualifier p = s.qualifier p :=
  State.qualifier_congr p rfl
@[simp] theorem State.qualifier_setMdc (s : State) (x : ModeController) (p : Pin) : (s.setMdc x).qualifier p = s.qualifier p :=
  State.qualifier_congr p rfl
@[simp] theorem State.qualifier_setNow (s : State) (x : Nat) (p : Pin) : (s.setNow x).qualifier p = s.qualifier p :=
  State.qualifier_congr p rfl
@[simp] theorem State.qualifier_setInReset (s : State) (x : Bool) (p : Pin) : (s.setInReset x).qualifier p = s.qualifier p :=
  State.qualifier_congr p rfl
@[simp] theorem State.qualifier_setPending (s : State) (x : List Instr) (p : Pin) : (s.setPending x).qualifier p = s.qualifier p :=
  State.qualifier_congr p rfl

end Sys2Proof.Machine
end

