-- ==== Sys2Proof/Laws/Ops.lean ====
section
/-! SUPPORT. What each shared operation does, said once, for the provers to cite in place of unfolding it. The
blocks an operation leaves alone stand in Laws/Frames.lean. -/

namespace Sys2Proof.Machine

/-! ## The guard of the commands -/

@[simp] theorem running_of_running {s : State} (f : State → State) (h : s.inReset = false) :
    running s f = .next (f s) := by simp [running, h]

@[simp] theorem running_of_inReset {s : State} (f : State → State) (h : s.inReset = true) :
    running s f = .next s := by simp [running, h]

theorem running_cases (s : State) (f : State → State) :
    ∃ t, running s f = .next t ∧ (s.inReset = true ∧ t = s ∨ s.inReset = false ∧ t = f s) := by
  cases h : s.inReset <;> simp [running, h]

/-- A press of a button that no reset has found held is a request (R125, R182). -/
@[simp] theorem request_of_free {s : State} (button : Pin) (f : State → State) (h : s.inReset = false)
    (k : (s.qualifier button).held = false) : request s button f = .next (f s) := by
  simp [request, h, k]

/-- A button held since a reset makes no request (R182). -/
@[simp] theorem request_of_held {s : State} (button : Pin) (f : State → State)
    (k : (s.qualifier button).held = true) : request s button f = .next s := by
  cases h : s.inReset <;> simp [request, running, h, k]

/-! ## The input pins -/

@[simp] theorem Pins.get_of {α : Type} (f : Pin → α) (p : Pin) : (Pins.of f).get p = f p := by
  rcases p with (c | c | c | c | _ | _ | _ | _ | _) <;> first | rfl | (cases c <;> rfl)

@[simp] theorem Pins.of_get {α : Type} (x : Pins α) : Pins.of x.get = x := rfl

@[simp] theorem Inputs.onPins_get (x : Inputs) (f : Pin → Qualifier → Qualifier) (p : Pin) :
    (x.onPins f).pins.get p = f p (x.pins.get p) := by simp [Inputs.onPins]

/-- What a command tells of one pin leaves the qualifiers of the others. -/
@[simp] theorem State.told_qualifier (s : State) (p x : Pin) (level : Bool) :
    (s.told p level).qualifier x = if x = p then (s.qualifier x).told level else s.qualifier x := by
  simp [State.told, State.qualifier]

/-- A command that tells what the qualifier holds already changes nothing: so it is with the commands that
`State.tick` puts into the queue. -/
theorem State.told_of_level {s : State} {p : Pin} {level : Bool} (h : (s.qualifier p).level = level) :
    s.told p level = s := by
  have k : (fun (x : Pin) (q : Qualifier) => if x = p then q.told level else q) p (s.inputs.pins.get p) =
      s.inputs.pins.get p := by simpa [Qualifier.told, State.qualifier] using fun e => absurd h e
  have e : (Pins.of fun x => if x = p then (s.inputs.pins.get x).told level else s.inputs.pins.get x) =
      s.inputs.pins := by
    conv => rhs; rw [← Pins.of_get s.inputs.pins]
    congr 1
    funext x
    split
    · subst x
      simpa using k
    · rfl
  simp only [State.told, Inputs.onPins, e]
  exact State.setInputs_same s

/-- One bit time of a qualifier (R182). -/
theorem Inputs.tick_get (x : Inputs) (p : Pin) : x.tick.pins.get p = (x.pins.get p).tick p := by
  simp [Inputs.tick]

/-- The levels read from power-on, at the qualifier of a pin (R182). -/
theorem Inputs.powerOn_get (x : Inputs) (first : Pins Bool) (later : List (Pins Bool)) (p : Pin) :
    (x.powerOn (first :: later)).pins.get p =
      later.foldl (fun q levels => ({ q with pin := levels.get p } : Qualifier).tick p)
        (.first (first.get p)) := by
  have h : ∀ y : Inputs, (later.foldl Inputs.read y).pins.get p =
      later.foldl (fun q levels => ({ q with pin := levels.get p } : Qualifier).tick p) (y.pins.get p) := by
    induction later with
    | nil => intro y; rfl
    | cons l ls ih => intro y; simp [ih, Inputs.read, Inputs.tick_get]
  simp [Inputs.powerOn, h]

/-- The end of a reset at the qualifier of a pin (R182). -/
theorem Inputs.resetEnds_get (x : Inputs) (p : Pin) :
    x.resetEnds.pins.get p = (x.pins.get p).resetEnds := by simp [Inputs.resetEnds]

/-- A qualifier's run stays short of its qualifying time (R182). -/
theorem Qualifier.tick_run (q : Qualifier) (p : Pin) : (q.tick p).run < p.qualifyTime := by
  have h : 0 < p.qualifyTime := by
    cases p <;> simp [Pin.qualifyTime, Config.beamQualify, Config.sensorQualify, Config.panelQualify, Config.perMs]
  unfold Qualifier.tick Qualifier.changes
  split
  · exact h
  · dsimp only
    split
    · exact h
    · rename_i hc hp
      simp only [Bool.and_eq_true, bne_iff_ne, decide_eq_true_eq, not_and, Nat.not_le] at hc
      exact hc hp

/-- The memory gives the image when its device answers and acknowledges the 64 bytes (R155, R182). -/
theorem SerialMemory.read_image (img : List Byte) (more : List (Option Byte)) (h : img.length = 64) :
    (SerialMemory.mk 0b1010011 (img.map some ++ more)).read = .image img := by
  have k : ∀ l : List Byte, ackedBytes l.length (l.map some ++ more) = some l := by
    intro l
    induction l with
    | nil => rfl
    | cons b bs ih => simp [ackedBytes, ih]
  have e := k img
  rw [h] at e
  simp [SerialMemory.read, Config.profileAddress, Config.imageBytes, e]

/-- The open bit of a bit time writes the open-bit run alone (R139). -/
theorem State.openBit_eq (s : State) :
    s.openBit = s.setLbi { s.lbi with
      openRun := if s.lbi.receiver ≠ .inFrame ∧ s.lbi.openRun + 1 < Config.idleRun then s.lbi.openRun + 1
        else s.lbi.openRun } := by
  unfold State.openBit
  by_cases h : s.lbi.receiver ≠ .inFrame ∧ s.lbi.openRun + 1 < Config.idleRun
  · simp only [if_pos h]
  · simp only [if_neg h]
    exact (State.setLbi_same s).symm

/-! ## Registers of a position -/

@[simp] theorem otherCradle_other (c : Cradle) : otherCradle (otherCradle c) = c := by cases c <;> rfl

theorem otherCradle_ne (c : Cradle) : otherCradle c ≠ c := by cases c <;> decide

@[simp] theorem State.setCradle_cradle (s : State) (c : Cradle) (r : CradleRec) :
    (s.setCradle c r).cradle c = r := by cases c <;> rfl

@[simp] theorem State.setCradle_other (s : State) (c : Cradle) (r : CradleRec) :
    (s.setCradle c r).cradle (otherCradle c) = s.cradle (otherCradle c) := by cases c <;> rfl

@[simp] theorem State.setCradle_blocked (s : State) (c : Cradle) (r : CradleRec) :
    (s.setCradle c r).crm.blocked = s.crm.blocked := by cases c <;> rfl

@[simp] theorem State.setCradle_again (s : State) (c : Cradle) (r q : CradleRec) :
    (s.setCradle c r).setCradle c q = s.setCradle c q := by cases c <;> rfl

@[simp] theorem State.setBeam_beam (s : State) (c : Cradle) (b : Beam) :
    (s.setBeam c b).beam c = b := by cases c <;> rfl

@[simp] theorem State.setBeam_other (s : State) (c : Cradle) (b : Beam) :
    (s.setBeam c b).beam (otherCradle c) = s.beam (otherCradle c) := by cases c <;> rfl

/-- A beam's record is all of the Drop Controller that `setBeam` writes. -/
@[simp] theorem State.setBeam_drc (s : State) (c : Cradle) (b : Beam) :
    (s.setBeam c b).drc.claims = s.drc.claims ∧ (s.setBeam c b).drc.falling = s.drc.falling ∧
      (s.setBeam c b).drc.missRun = s.drc.missRun ∧ (s.setBeam c b).drc.gate = s.drc.gate ∧
      (s.setBeam c b).drc.diverter = s.drc.diverter ∧
      (s.setBeam c b).drc.gateLock = s.drc.gateLock := by
  cases c <;> simp [State.setBeam]

@[simp] theorem State.putMode_mdc (s : State) (m : Mode) :
    (s.putMode m).mdc = { s.mdc with mode := m } := rfl

@[simp] theorem State.reach_now (s : State) (t : Nat) : (s.reach t).now = max s.now t := rfl

/-! ## HOLD -/

/-- The level on HOLD is taken, and a change of it sets the coast count to 0 (R14). -/
theorem State.readHold_ptr (s : State) :
    s.readHold.ptr = { s.ptr with
      holdRead := s.holdDrive || s.ptr.holdOthers
      coast := if (s.holdDrive || s.ptr.holdOthers) = s.ptr.holdRead then s.ptr.coast else 0 } := by
  unfold State.readHold
  dsimp only
  split
  · rename_i h
    simp only [h]
  · simp [*]

/-- Only what is read on HOLD and the coast count can change besides the reason that is set (R13, R14). -/
theorem State.setHold_ptr (s : State) (v : Bool) :
    ((s.setHoldBlocked v).ptr = { s.ptr with
      holdBlocked := v, holdRead := (s.setHoldBlocked v).ptr.holdRead
      coast := (s.setHoldBlocked v).ptr.coast }) ∧
    ((s.setHoldStop v).ptr = { s.ptr with
      holdStop := v, holdRead := (s.setHoldStop v).ptr.holdRead
      coast := (s.setHoldStop v).ptr.coast }) := by
  simp [State.setHoldBlocked, State.setHoldStop, State.readHold_ptr]

/-! ## The notice queue and the level-1 records -/

/-- Room at the tail: the notice joins (R149). -/
theorem State.joinNotice_of_room {s : State} (n : Notice) (h : s.lbi.notices.length < 8) :
    s.joinNotice n = s.setLbi { s.lbi with notices := s.lbi.notices ++ [n] } := by
  simp [State.joinNotice, Config.noticesMax, h]

/-- A full queue: the notice is discarded (R150). -/
theorem State.joinNotice_of_full {s : State} (n : Notice) (h : 8 ≤ s.lbi.notices.length) :
    s.joinNotice n = s.discardNotice := by
  simp [State.joinNotice, Config.noticesMax, Nat.not_lt.mpr h]

/-- A raise with a record already current goes to the level-1 pending set (R118, R122). -/
theorem State.raise1_of_current {s : State} {r : Record} (c : Cause) (param : BitVec 12)
    (h : s.alc.current = some r) :
    s.raise1 c param =
      s.setAlc { s.alc with pend1 := putRecord ⟨c, param, s.stamp⟩ s.alc.pend1 } := by
  simp [State.raise1, State.attention, h]

/-- A raise at level NONE becomes current, and queues an ALERT (R118, R133). -/
theorem State.raise1_of_none {s : State} (c : Cause) (param : BitVec 12) (h : s.alc.current = none) :
    s.raise1 c param =
      (s.setAlc { s.alc with current := some ⟨c, param, s.stamp⟩ }).queueAlert := by
  simp [State.raise1, State.attention, h, State.queueAlert]

/-- A discarded notice sets the lost flag; what stands at the Alert Controller gains NOTICE-LOST when the flag
was clear (R150). -/
theorem State.discardNotice_lost (s : State) : s.discardNotice.lbi.lost = true := by
  unfold State.discardNotice State.attention State.alertNotice
  dsimp only
  (repeat' split) <;> simp [State.putLost]

/-- Behind a record already current, a discard adds NOTICE-LOST to the pending set at most (R150). -/
theorem State.discardNotice_of_current {s : State} {r : Record} (h : s.alc.current = some r) :
    s.discardNotice =
      if s.lbi.lost then s.putLost
      else s.putLost.setAlc { s.alc with pend1 := putRecord ⟨.noticeLost, 0, s.stamp⟩ s.alc.pend1 } := by
  unfold State.discardNotice
  split
  · rfl
  · have k : s.putLost.alc.current = some r := by simpa using h
    unfold State.attention
    simp [h, State.stamp]

/-- An ALERT for the current record: one already queued stands for it, else it joins the tail, else it is lost
(R151, R150). -/
theorem State.queueAlert_of_room {s : State} (h : s.lbi.notices.length < 8) :
    s.queueAlert =
      if .alert ∈ s.lbi.notices then
        (if s.drivingAlert then s.setLbi { s.lbi with resend := true } else s)
      else s.setLbi { s.lbi with notices := s.lbi.notices ++ [.alert] } := by
  simp [State.queueAlert, State.alertNotice, Config.noticesMax, h]

/-- The record put into a pending set is in it. -/
theorem mem_putRecord_self (r : Record) (l : List Record) : r ∈ putRecord r l := by
  induction l with
  | nil => simp [putRecord]
  | cons x xs ih =>
    unfold putRecord
    (repeat' split) <;> simp [ih]

/-- What a pending set holds once a record is put into it: that record and the other codes it held (R115). -/
theorem mem_putRecord {r x : Record} {l : List Record} (h : x ∈ putRecord r l) : x = r ∨ x ∈ l := by
  induction l with
  | nil => simpa [putRecord] using h
  | cons y ys ih =>
    unfold putRecord at h
    split at h
    · rcases List.mem_cons.mp h with h | h <;> simp [h]
    · split at h
      · rcases List.mem_cons.mp h with h | h
        · simp [h]
        · rcases ih h with h | h <;> simp [h]
      · rcases List.mem_cons.mp h with h | h
        · simp [h]
        · exact .inr h

/-- A record of another cause stays in a pending set when one is put into it. -/
theorem mem_putRecord_of_mem {r x : Record} {l : List Record} (h : x ∈ l) (hc : x.cause ≠ r.cause) :
    x ∈ putRecord r l := by
  induction l with
  | nil => simp at h
  | cons y ys ih =>
    unfold putRecord
    rcases List.mem_cons.mp h with rfl | h
    · simp only [hc, if_false]
      split <;> simp
    · split
      · exact List.mem_cons_of_mem _ h
      · split
        · exact List.mem_cons_of_mem _ (ih h)
        · exact List.mem_cons_of_mem _ (List.mem_cons_of_mem _ h)

/-! ## The Re-offer List -/

/-- What insertion in tag order holds: the new entry and the old ones (R47, R104). -/
@[simp] theorem mem_insertByTag {α : Type} (tagOf : α → Tag) (e x : α) (l : List α) :
    x ∈ insertByTag tagOf e l ↔ x = e ∨ x ∈ l := by
  induction l with
  | nil => simp [insertByTag]
  | cons y ys ih =>
    unfold insertByTag
    split
    · simp [ih, or_left_comm]
    · simp

/-- With no entry before the new one, the new one is the head (R47, R104). -/
theorem insertByTag_of_none_before {α : Type} (tagOf : α → Tag) (e : α) (l : List α)
    (h : ∀ x ∈ l, tagBefore (tagOf x) (tagOf e) = false) : insertByTag tagOf e l = e :: l := by
  cases l with
  | nil => rfl
  | cons x xs => rw [insertByTag, if_neg (by simpa using h)]

/-- With an entry before the new one, the new one goes behind the head (R47, R104). -/
theorem insertByTag_of_some_before {α : Type} (tagOf : α → Tag) (e x : α) (xs : List α)
    (h : ∃ y ∈ x :: xs, tagBefore (tagOf y) (tagOf e) = true) :
    insertByTag tagOf e (x :: xs) = x :: insertByTag tagOf e xs := by
  rw [insertByTag, if_pos (by simpa using h)]

@[simp] theorem insertByTag_length {α : Type} (tagOf : α → Tag) (e : α) (l : List α) :
    (insertByTag tagOf e l).length = l.length + 1 := by
  induction l with
  | nil => rfl
  | cons y ys ih =>
    unfold insertByTag
    split <;> simp [ih]

/-- A stem the list is offered never changes which entry is being sent. -/
@[simp] theorem State.reoffer_sending (s : State) (st : Stem) :
    (s.reoffer st).rol.sending = s.rol.sending := by
  unfold State.reoffer
  split <;> simp

@[simp] theorem State.reofferAll_sending (s : State) (l : List Stem) :
    (s.reofferAll l).rol.sending = s.rol.sending := by
  induction l generalizing s with
  | nil => rfl
  | cons st l ih => simp [State.reofferAll, ih]

/-- The expiry check drops entries and nothing else (R105). -/
theorem State.expire_entries (s : State) :
    s.expire.rol.entries =
        s.rol.entries.filter (fun e => !s.expired e.tag || s.rol.sending == some e.tag) ∧
      s.expire.rol.sending = s.rol.sending := by
  simp [State.expire]

/-! ## The claim round -/

@[simp] theorem State.roundIdle_clu (s : State) : s.roundIdle.clu = .atRest := rfl

/-- Of the bus interface, a stopped claim frame changes the transmitter alone (R44, R45). -/
theorem State.stopClaimFrame_lbi (s : State) :
    s.stopClaimFrame.lbi =
      { s.lbi with tx := if s.drivingClaim = true then none else s.lbi.tx } := by
  unfold State.stopClaimFrame
  split <;> simp [*]

/-- A bidder before its start gives up (R41). -/
theorem State.giveUpStart_clu (s : State) :
    s.giveUpStart.clu =
      if s.clu.round = .bidding ∧ s.drivingClaim = false then
        { s.clu with round := .lost, gaveUp := true } else s.clu := by
  unfold State.giveUpStart
  split <;> simp

/-- The two ends of a LOST round (R41, R42). -/
theorem State.endLost_clu (s : State) :
    s.endLostFrame.clu = s.clu.afterFrame ∧ s.endLost.clu = s.clu.afterIdle := by
  constructor
  · unfold State.endLostFrame ClaimUnit.afterFrame
    split <;> simp
  · unfold State.endLost ClaimUnit.afterIdle
    split <;> simp

/-- The end of a frame, block by block (R139, R143, R42). -/
theorem State.frameEnd_eq (s : State) :
    s.frameEnd = (s.setLbi s.lbi.afterFrame).setClu s.clu.afterFrame := by
  unfold State.frameEnd State.endLostFrame ClaimUnit.afterFrame LineBus.afterFrame
  by_cases h : s.clu.round = .lost ∧ s.clu.gaveUp = false
  · exact (if_pos h).trans (by rw [if_pos h]; rfl)
  · exact (if_neg h).trans (by rw [if_neg h]; exact (State.setClu_same (s.setLbi _)).symm)

/-- The end of a frame of this station, block by block (R140, R148). -/
theorem State.ownFrameEnd_eq (s : State) :
    s.ownFrameEnd =
      (s.setLbi { s.lbi.afterFrame with tx := none, mismatches := 0 }).setClu s.clu.afterFrame := by
  rw [State.ownFrameEnd, State.frameEnd_eq]
  rfl

/-- A change of mode sets the mode and nothing else of the Mode Controller (R154). -/
@[simp] theorem State.changeMode_mdc (s : State) (m : Mode) :
    (s.changeMode m).mdc = { s.mdc with mode := m } := by
  unfold State.changeMode State.modeEndsRound State.giveUpStart State.stopClaimFrame
  (repeat' split) <;> simp

/-- A change to ACTIVE or DRAINING leaves the round as it is (R45). -/
theorem State.changeMode_of_bids {m : Mode} (s : State) (h : m.bids = true) :
    s.changeMode m = s.putMode m := by simp [State.changeMode, h]

/-- A round opens with the chosen candidate, or leaves the Claim Unit at rest (R31, R32, R40, R52). -/
theorem State.openRound_clu (s : State) (kind : RoundKind) (st : Stem) :
    (s.openRound kind st).clu =
      match if s.stopClaimFrame.roundIdle.eligible kind st then
        s.stopClaimFrame.roundIdle.choose kind st else none with
      | some c => { round := .bidding, chosen := some c, gaveUp := false }
      | none => .atRest := by
  unfold State.openRound
  dsimp only
  split <;> simp [*]

/-! ## Recipes and cradles -/

@[simp] theorem State.onRecipe_length (s : State) (i : Nat) (f : Recipe → Recipe) :
    (s.onRecipe i f).rct.length = s.rct.length := by simp [State.onRecipe]

/-- The record changed, and the others left (R24 to R27). -/
theorem State.onRecipe_get (s : State) (i j : Nat) (f : Recipe → Recipe) :
    (s.onRecipe i f).rct[j]? = if i = j then (s.rct[j]?).map f else s.rct[j]? := by
  simp only [State.onRecipe, State.setRct_rct, List.getElem?_modify]
  split <;> simp

/-- The completion report changes the counts of its recipe and no other (R26). -/
theorem State.completionReport_get (s : State) (i j : Nat) :
    (s.completionReport i).rct[j]? =
      if i = j then (s.rct[j]?).map Recipe.completed else s.rct[j]? := by
  unfold State.completionReport
  split
  · rename_i h
    split
    · rename_i e
      subst e
      simp [h]
    · rfl
  · rename_i r h
    dsimp only
    split <;> simp only [State.joinNotice_frame, State.onRecipe_get] <;> split <;>
      rename_i e <;> try rfl
    all_goals
      subst e
      simp [h]

/-- What a lost stem does to the cradle it was counted on, and to no other (R60, R68, R69). -/
theorem State.afterLoss_cradle (s : State) (c : Cradle) :
    (s.afterLoss c).cradle c =
        (if (s.cradle c).building = true then
          if (s.cradle c).k = 0 then
            { s.cradle c with state := .empty, recipe := none, envelope := none }
          else { s.cradle c with state := .filling, envelope := s.envelopeNow c }
        else s.cradle c) ∧
      (s.afterLoss c).cradle (otherCradle c) = s.cradle (otherCradle c) ∧
      (s.afterLoss c).crm.blocked = s.crm.blocked := by
  unfold State.afterLoss
  dsimp only
  (repeat' split) <;>
    simp [State.onRecipe, State.setCradle_cradle, *]

/-- What a lost stem does to the recipes: nothing, unless k = 0 unbinds the cradle (R25, R69). -/
theorem State.afterLoss_rct (s : State) (c : Cradle) :
    (s.afterLoss c).rct =
      if (s.cradle c).building = true ∧ (s.cradle c).k = 0 then
        match (s.cradle c).recipe with
        | none => s.rct
        | some i => s.rct.modify i Recipe.unbound
      else s.rct := by
  unfold State.afterLoss
  dsimp only
  (repeat' split) <;> simp_all [State.onRecipe]

/-- An un-commit leaves the stack, the other cradle and the removal timer alone (R68). -/
theorem State.uncommit_keeps (s : State) (c : Cradle) (n : Nat) :
    ((s.uncommit c n).cradle c).stack = (s.cradle c).stack ∧
      ((s.uncommit c n).cradle c).removal = (s.cradle c).removal ∧
      ((s.uncommit c n).cradle c).completion = (s.cradle c).completion ∧
      ((s.uncommit c n).cradle c).committed = (s.cradle c).committed - n ∧
      (s.uncommit c n).cradle (otherCradle c) = s.cradle (otherCradle c) ∧
      (s.uncommit c n).crm.blocked = s.crm.blocked := by
  unfold State.uncommit
  split
  · simp [*]
  · have h := State.afterLoss_cradle
      (s.setCradle c { s.cradle c with committed := (s.cradle c).committed - n }) c
    simp only [h, State.setCradle_cradle, State.setCradle_other, State.setCradle_blocked]
    (repeat' split) <;> simp

/-- A cradle that enters COMPLETE keeps its stack, counts and envelope, and its timer runs (R70). -/
theorem State.complete_cradle (s : State) (c : Cradle) (how : Completion) :
    (s.complete c how).cradle c =
        { s.cradle c with state := .complete, completion := some how, removal := some s.now } ∧
      (s.complete c how).cradle (otherCradle c) = s.cradle (otherCradle c) := by
  have e : ∀ (t : State) (i : Nat) (d : Cradle), (t.completionReport i).cradle d = t.cradle d :=
    fun t i d => State.cradle_congr d (by simp)
  have j : ∀ (t : State) (n : Notice) (d : Cradle), (t.joinNotice n).cradle d = t.cradle d :=
    fun t n d => State.cradle_congr d (by simp)
  unfold State.complete
  dsimp only
  split <;> simp [e, j]

/-- A landing at its cradle: the stack grows by the stem and the committed count goes down, whether or not the
bunch completes (R67). -/
theorem State.land_cradle (s : State) (e : Claim) (verified : Bool) :
    ((s.land e verified).cradle e.cradle).stack = e.landed verified :: (s.cradle e.cradle).stack ∧
      ((s.land e verified).cradle e.cradle).committed = (s.cradle e.cradle).committed - 1 ∧
      ((s.land e verified).cradle e.cradle).envelope = (s.cradle e.cradle).envelope ∧
      ((s.land e verified).cradle e.cradle).recipe = (s.cradle e.cradle).recipe ∧
      (s.land e verified).cradle (otherCradle e.cradle) = s.cradle (otherCradle e.cradle) := by
  unfold State.land
  dsimp only
  split
  · simp
  · split
    · simp [State.complete_cradle]
    · simp

/-! ## The tests at the end of an event, and STOP -/

/-- BLOCKED is worked out again, and the cradles stay (R78). -/
theorem State.reviewBlocked_crm (s : State) :
    s.reviewBlocked.crm = { s.crm with blocked := s.blockedNow } := by
  unfold State.reviewBlocked
  split
  · rename_i h
    rw [h]
  · split <;> rename_i h _ <;> simp_all

/-- The mode after the test for IDLE (R162, R163). -/
theorem State.reviewIdle_mdc (s : State) :
    s.reviewIdle.mdc = { s.mdc with mode := if s.idleNow = true then .idle else s.mdc.mode } := by
  unfold State.reviewIdle
  split <;> simp [*]

/-- Entering STOP: the mode, the gate and the pending queue (R121, R98). -/
theorem State.enterStop_does (s : State) (c : Cause) (param : BitVec 12) :
    (s.enterStop c param).mdc = { s.mdc with mode := .stopped } ∧
      (s.enterStop c param).drc = { s.drc with claims := [], gateLock := true } := by
  unfold State.enterStop State.stopForfeit
  dsimp only
  split <;> simp

/-- A level-2 cause in STOP waits in the level-2 pending set (R122). -/
theorem State.raise2_in_stop {s : State} (c : Cause) (param : BitVec 12) (h : s.level = .stop) :
    s.raise2 c param =
      s.setAlc { s.alc with pend2 := putRecord ⟨c, param, s.stamp⟩ s.alc.pend2 } := by
  simp [State.raise2, h]

/-- A level-2 cause outside STOP enters it (R121). -/
theorem State.raise2_of_not_stop {s : State} (c : Cause) (param : BitVec 12) (h : s.level ≠ .stop) :
    s.raise2 c param = s.enterStop c param := by simp [State.raise2, h]

/-! ## Announce pending -/

/-- An end of announce pending at the tracker (R11, R142). -/
theorem State.endAnnouncePending_ptr (s : State) :
    s.endAnnouncePending.ptr.p = s.ptr.p ∧ s.endAnnouncePending.ptr.h = s.ptr.h ∧
      s.endAnnouncePending.ptr.announceExpected =
        (s.ptr.announceExpected && s.lbi.announcePending.isNone) := by
  unfold State.endAnnouncePending State.unannouncedPitch
  dsimp only
  (repeat' split) <;> simp_all

end Sys2Proof.Machine
end

