-- ==== Sys2Proof/Tests/Slice0.lean ====
section
/-! SUPPORT. Tests, each on one command and one small state, with the expected values taken from the worked
examples and tables of the spec; and, for each statement with hypotheses, a theorem `witness_<statement>` that
shows states and operands meeting them, clause by clause. -/

namespace Sys2Proof.Tests

/- Each `decide +kernel` waits for the kernel, and eighty of them waiting at once take more memory than the check
allows; one after another they take no longer. -/
set_option Elab.async false

open Sys2Proof Sys2Proof.Machine

/-! ## The stations of chapter 11 -/

/-- The state a command leaves; the state itself where it is refused. -/
def after (c : Instr) (s : State) : State :=
  match exec c s with
  | .next t => t
  | _ => s

/-- Recipe 0 of the three stations (11.1). -/
def recipe0 : Recipe :=
  { low := 600, high := 649, gradeMask := 0x0F, acceptHead := false, acceptBent := false, n := 5, s := 20,
    q := 0, fallback := false, exhausted := false, made := 11, inProgress := 2 }

/-- A plain stem of grade 1. -/
def stem (tag : Tag) (length : Length) : Stem := ⟨tag, length, 1, false, false, false⟩

/-- A verified stack entry. -/
def landed (length : Length) : Landed := ⟨290, length, 1, .claim, true⟩

/-- A cradle FILLING or CLOSING on recipe 0, the most recent landing first. -/
def building (state : CradleState) (stack : List Landed) (committed least greatest : Nat) : CradleRec :=
  ⟨state, some 0, stack, committed, some ⟨least, greatest⟩, none, none⟩

/-- An EMPTY cradle. -/
def emptyCradle : CradleRec := { CradleRec.absent with state := .empty }

/-- An ACTIVE station with P = H, its receiver waiting for a start mark, and the profile values of 11.1. -/
def station (number : StationNo) (d : Nat) (p : Tag) (hold : Bool) (a b : CradleRec)
    (claims : List Claim) : State :=
  { State.reset with
    ptr := { State.reset.ptr with p := some p, h := some p }
    rct := [recipe0]
    drc := { State.reset.drc with claims := claims }
    crm := ⟨a, b, false⟩
    lbi := { State.reset.lbi with receiver := .waitingStart }
    mdc := ⟨.active, .done, some ⟨number, d, 12, 30, 120, 60, hold, false, true⟩, .stopped⟩
    now := 1000 }

/-- Station 11 at the start of 11.1. -/
def st11 : State :=
  station 11 8 300 false (building .filling [landed 615, landed 625, landed 605] 1 605 625)
    (building .filling [landed 625] 0 625 625) [⟨stem 298 618, .a, .claim⟩]

/-- Station 4 at the start of 11.1, without its STRAY: cradle B is EMPTY. -/
def st4 : State :=
  (station 4 5 300 false (building .filling [landed 620, landed 610] 0 610 620) emptyCradle []).setRct
    [{ recipe0 with inProgress := 1 }]

/-- Station 17 at the start of 11.1. -/
def st17 : State :=
  station 17 11 300 true (building .closing [landed 645, landed 635, landed 628] 2 628 645)
    (building .filling [landed 602] 0 602 602) [⟨stem 296 640, .a, .claim⟩, ⟨stem 297 632, .a, .claim⟩]

/-- A frame of another device is being received. -/
def receiving (s : State) : State := s.setLbi { s.lbi with receiver := .inFrame }

/-- The station drives a frame. -/
def driving (f : Frame) (s : State) : State := s.setLbi { s.lbi with receiver := .inFrame, tx := some f }

/-- The bus is idle and no reserved period runs. -/
def idleBus (s : State) : State := s.setLbi { s.lbi with receiver := .waitingStart, openRun := 11 }

/-- A round state with a candidate for cradle A of station 11 for tag 301 (11.2). -/
def candidate301 : Candidate := ⟨.claim, stem 301 620, .a, 0, false, 651⟩
def inRound (round : Round) (c : Candidate) (s : State) : State := s.setClu ⟨round, some c, false⟩

/-- A won claim frame at its end. -/
def won (c : Candidate) (s : State) : State :=
  driving (.claim c.kind c.stem.tag c.bid) (inRound .won c s)

/-- A falling entry. -/
def falling (tag : Tag) (length : Length) (c : Cradle) (window : Window) : Falling :=
  ⟨⟨stem tag length, c, .claim⟩, 900, window⟩

/-- A station in STOP with a record current, its claims given up. -/
def stopped (r : Record) (s : State) : State :=
  ((s.setAlc { s.alc with current := some r, savedMode := some s.mdc.mode }).setDrc
    { s.drc with claims := [], gateLock := true }).putMode .stopped

/-- A station with records at level 1. -/
def attn (r : Record) (pend : List Record) (s : State) : State :=
  s.setAlc { s.alc with current := some r, pend1 := pend }

/-! ## Well-formed commands -/

theorem test_wellFormed_unknown_code :
    (Instr.unknownKindFrame 10).wellFormed = false ∧ (Instr.unknownKindFrame 11).wellFormed = true := by
  decide

theorem test_wellFormed_notice_kind :
    (Instr.noticeReceived .join).wellFormed = false ∧ (Instr.noticeReceived .status).wellFormed = true := by
  decide

theorem test_illFormed_is_refused :
    exec (.unknownKindFrame 10) st11 = .refused (.illFormed "UNKNOWN_KIND_FRAME") ∧
      exec (.noticeReceived .join) st11 = .refused (.illFormed "NOTICE_RECEIVED") :=
  ⟨rfl, rfl⟩

/-! ## Worked figures -/

/-- The tables of R2 and R3. -/
theorem test_tags_and_positions :
    tagBefore 700 701 = true ∧ tagBefore 4090 10 = true ∧ tagBefore 702 701 = false ∧
      tagBefore 701 702 = true ∧ tagBefore 100 2148 = false ∧ tagBefore 2148 100 = false ∧
      tagBefore 300 300 = false ∧ pos 10 4090 = 16 ∧ pos 1241 1200 = 41 ∧ pos 100 2200 = 1996 ∧
      pos 100 2148 = 2048 ∧ pos 100 150 = 4046 := by decide +kernel

/-- The recipe of "Limits of the bid arithmetic" (chapter 3). -/
def limitRecipe (n s : Nat) (fallback : Bool) : Recipe := { recipe0 with n := n, s := s, fallback := fallback }

/-- "Limits of the bid arithmetic", six rows, and the three bids of chapter 3's worked example. -/
theorem test_bids :
    bidOf (limitRecipe 1 30 false) 0 ⟨700, 700⟩ 17 = 17 ∧
      bidOf (limitRecipe 2 30 false) 0 ⟨700, 700⟩ 17 = 638993 ∧
      bidOf (limitRecipe 2 30 false) 1 ⟨690, 700⟩ 17 = 337 ∧
      bidOf (limitRecipe 20 255 true) 19 ⟨400, 1000⟩ 17 = 802769 ∧
      bidOf (limitRecipe 20 255 true) 0 ⟨1000, 1000⟩ 17 = 1015825 ∧
      bidOf (limitRecipe 20 30 false) 5 ⟨512, 542⟩ 17 = 426961 ∧
      bidOf (limitRecipe 20 30 false) 12 ⟨512, 538⟩ 5 = 344901 ∧
      bidOf (limitRecipe 20 30 false) 19 ⟨520, 545⟩ 9 = 777 ∧
      bidOf (limitRecipe 25 40 false) 0 ⟨538, 538⟩ 2 = 753666 := by decide

/-- The table of R37. -/
theorem test_fill :
    [(20, 12), (20, 19), (25, 0), (60, 0), (60, 58), (2, 0), (1, 0)].map
      (fun x => fill (limitRecipe x.1 30 false) x.2) = [5, 0, 14, 14, 0, 7, 0] := by decide

/-- The table of R168, and the mean of 11.2. -/
theorem test_means :
    [[512, 530, 538], [520, 530, 512, 525], [610, 604], [601, 602], [700], [605, 625, 615, 618, 620]].map
      meanLength = [527, 522, 607, 602, 700, 617] := by decide

/-- The table of R60: the envelopes left by the four removals. -/
theorem test_envelopes :
    envelopeOf [512, 530, 520, 525] = some ⟨512, 530⟩ ∧
      envelopeOf [512, 530, 520, 538] = some ⟨512, 538⟩ ∧
      envelopeOf [512, 530, 538, 525] = some ⟨512, 538⟩ ∧ envelopeOf [512, 530, 520] = some ⟨512, 530⟩ ∧
      envelopeOf [] = none := by decide

/-- The example of section 2.3: a bent stem of 538 mm and grade 2 against four recipes opens recipe 3. -/
def fourRecipes : List Recipe :=
  [⟨500, 549, 0x03, true, true, 20, 30, 0, false, false, 41, 1⟩,
    ⟨520, 560, 0x0F, false, false, 20, 30, 8, false, false, 6, 2⟩,
    ⟨530, 569, 0x0F, false, true, 20, 30, 10, false, true, 10, 0⟩,
    ⟨300, 1200, 0xFF, true, true, 20, 30, 0, true, false, 3, 0⟩]

theorem test_opening_recipe :
    fourRecipes.map (·.stemTest ⟨900, 538, 2, false, true, false⟩) = [false, false, true, true] ∧
      fourRecipes.map (·.canBind) = [true, false, false, true] ∧
      openingRecipe fourRecipes ⟨900, 538, 2, false, true, false⟩ = some 3 := by decide +kernel

/-- The frame lengths of R137, of frames without stuff bits: the start mark and all content bits. -/
theorem test_frame_lengths :
    [FrameKind.announce, .claim, .reclaim, .reoffer, .conflict, .alert, .bunch, .quota, .join, .query,
      .status].map (fun k => 1 + 4 + (layout k).sum + 16) =
        [50, 53, 53, 56, 27, 59, 95, 41, 55, 31, 80] := by decide

/-- The check of R138 over the nine bytes of the text "123456789", as the division by x^16 + x^12 + x^5 + 1 from
an all-ones register gives it: 0x29B1. -/
theorem test_check :
    check ([0x31, 0x32, 0x33, 0x34, 0x35, 0x36, 0x37, 0x38, 0x39].flatMap (numBits 8)) = 0x29B1#16 := by
  decide +kernel

/-- R137: after ten open bits, with a bit still to come, a marked stuff bit is driven. -/
theorem test_stuffing :
    stuff 0 (List.replicate 12 true) = List.replicate 10 true ++ [false, true, true] ∧
      stuff 0 (List.replicate 10 true) = List.replicate 10 true := by decide

/-- 12.2: the main part of a CRADLE answer as section 10.3's example gives it, by its field values. -/
theorem test_cradle_body :
    (StatusBody.cradleMain .closing (some 2) none 18 2 (some ⟨520, 545⟩)).fields =
      [(1, 0), (3, 4), (2, 2), (2, 3), (6, 18), (6, 2), (11, 520), (11, 545)] := by decide

/-! ## Pulses, announcements and HOLD -/

/-- Section 1.5's example: a forward pulse from P 4095 is followed by 0. -/
theorem test_forward_pulse_wraps :
    (after .forwardPulse (st4.setPtr { st4.ptr with p := some 4095, h := some 4095 })).ptr.p = some 0 := by
  decide +kernel

/-- 11.2: at P = 306 station 11 fires for 298 with the diverter at A. -/
theorem test_forward_pulse_fires :
    let t := after .forwardPulse (st11.setPtr { st11.ptr with p := some 305 })
    t.drc.claims = [] ∧ t.drc.gate = some 1000 ∧ t.drc.diverter = .a ∧
      t.drc.falling = [⟨⟨stem 298 618, .a, .claim⟩, 1000, .waiting⟩] := by decide +kernel

/-- R6: 0 is followed by 4095, and H stays. -/
theorem test_reverse_pulse_wraps :
    (after .reversePulse (st4.setPtr { st4.ptr with p := some 0 })).ptr.p = some 4095 ∧
      (after .reversePulse st4).ptr.h = some 300 := by decide +kernel

/-- Section 1.5's example: at P 705 the announcement of 706 is a slip with parameter 705 and stamp 706. -/
theorem test_announce_slip :
    let t := after (.announce (stem 706 0)) (receiving (st4.setPtr { st4.ptr with p := some 705, h := some 703 }))
    t.ptr.p = some 706 ∧ t.ptr.h = some 706 ∧ t.alc.current = some ⟨.pitchSlip, 705, 706⟩ := by
  decide +kernel

/-- 11.2: the announcement of tag 301, 620 mm: station 4 bids 360,772, station 11 651, station 17 410,193. -/
theorem test_announce_bids :
    [st4, st11, st17].map (fun s =>
      ((after (.announce (stem 301 620)) (receiving (s.setPtr { s.ptr with p := some 301 }))).clu.chosen).map
        (·.bid)) = [some 360772, some 651, some 410193] := by decide +kernel

/-- R12: the eighth pitch that goes unannounced makes GAUGE-SILENT current, with P as its parameter. -/
theorem test_announce_pending_end_silence :
    let s := st4.setPtr { st4.ptr with announceExpected := true, unannounced := 7 }
    let t := after .announcePendingEnd (s.setLbi { s.lbi with announcePending := some 600 })
    t.alc.current = some ⟨.gaugeSilent, 300, 300⟩ ∧ t.ptr.unannounced = 8 ∧ t.now = 1100 := by decide +kernel

/-- Section 1.6's example: the fourth coasting pitch raises HOLD-OVERRUN with parameter 4, and a change of the
level read sets the count to 0. -/
theorem test_hold_overrun :
    let s := st4.setPtr { st4.ptr with holdOthers := true, holdRead := true, coast := 3 }
    (after .forwardPulse s).alc.current = some ⟨.holdOverrun, 4, 301⟩ ∧
      (after (.holdLevelChange false) s).ptr.coast = 0 ∧ (after (.holdLevelChange true) s).ptr.coast = 3 := by
  decide +kernel

/-! ## The claim round and the Re-offer List -/

/-- R144: the start mark comes 8 bit times after the end of the ANNOUNCE, with the tag and the bid. -/
theorem test_claim_start :
    let s := inRound .bidding candidate301 st11
    let t := after .claimStart (s.setLbi { s.lbi with claimReserve := some 1000 })
    t.lbi.tx = some (.claim .claim 301 651) ∧ t.now = 1008 := by decide +kernel

/-- R41: a start mark read before the start point makes a bidder give up its start. -/
theorem test_start_mark_gives_up :
    (after .startMark (inRound .bidding candidate301 st11)).clu.round = .lost ∧
      (after .startMark (inRound .bidding candidate301 st11)).lbi.receiver = .inFrame := by decide +kernel

/-- R53: a RECLAIM frame of a bidder. -/
theorem test_reclaim_start :
    let s := inRound .bidding { candidate301 with kind := .reclaim } st11
    (after .reclaimStart s).lbi.tx = some (.claim .reclaim 301 651) ∧ (after .claimStart s).lbi.tx = none := by
  decide +kernel

/-- R42, R43: a bit read marked where it was driven open loses the round; bid bit 0 driven wins it. -/
theorem test_loss_and_win :
    let s := driving (.claim .claim 301 651) (inRound .bidding candidate301 st11)
    (after .arbitrationLoss s).clu.round = .lost ∧ (after .arbitrationLoss s).lbi.tx = none ∧
      (after .won s).clu.round = .won ∧ (after .won s).lbi.tx.isSome = true := by decide +kernel

/-- 11.2: station 11 commits tag 301; cradle A goes to CLOSING with committed 2 and envelope 605..625. -/
theorem test_claim_sent_commits :
    let t := after .claimSent (won candidate301 (st11.setPtr { st11.ptr with p := some 301 }))
    t.crm.cradleA = building .closing [landed 615, landed 625, landed 605] 2 605 625 ∧
      t.drc.claims.map (·.stem.tag) = [298, 301] ∧ t.clu.round = .idle := by decide +kernel

/-- R104, R2: 2148 goes behind 2000, which is before it, and behind 100, which is 2048 away and neither; R47, across
the wrap. -/
theorem test_insert_by_tag :
    insertByTag id (2148 : Tag) [100, 2000] = [100, 2000, 2148] ∧
      insertByTag id (2 : Tag) [4090, 1, 5] = [4090, 1, 2, 5] := by decide +kernel

/-- 11.3: station 17 takes tag 302, given up at station 4, ahead of later tags, as RECLAIMED. -/
theorem test_reclaim_sent_commits :
    let c : Candidate := ⟨.reclaim, stem 302 612, .b, 0, false, 409937⟩
    let s := st17.setPtr { st17.ptr with p := some 305 }
    let t := after .reclaimSent (won c (s.setDrc { s.drc with claims := s.drc.claims ++ [⟨stem 310 636, .a, .claim⟩] }))
    t.drc.claims.map (fun e => (e.stem.tag, e.kind)) =
        [(296, .claim), (297, .claim), (302, .reclaim), (310, .claim)] ∧
      t.crm.cradleB.envelope = some ⟨602, 612⟩ := by decide +kernel

/-- R46, R49: a removal during the round leaves the cradle ABSENT, and the win is forfeited at once. -/
theorem test_claim_sent_forfeits :
    let t := after .claimSent (won candidate301 ((st11.setPtr { st11.ptr with p := some 301 }).setCradle .a .absent))
    t.rol.entries = [stem 301 620] ∧ t.drc.claims = st11.drc.claims := by decide +kernel

/-- 11.3: the REOFFER of tag 302 opens a RECLAIM round at station 17 with bid 409,937. -/
theorem test_reoffer_received_opens :
    let t := after (.reofferReceived 4 (stem 302 612)) (receiving (st17.setPtr { st17.ptr with p := some 305 }))
    (t.clu.chosen).map (fun c => (c.kind, c.bid)) = some (.reclaim, 409937) ∧
      t.lbi.reclaimReserve = some 1000 := by decide +kernel

/-- R52: at D less than pos(t) + 2 no round opens; at D = pos(t) + 2 one does. -/
theorem test_reoffer_received_position :
    let t := fun (p : Tag) =>
      (after (.reofferReceived 4 (stem 302 612)) (receiving (st17.setPtr { st17.ptr with p := some p }))).clu.round
    t 311 = .bidding ∧ t 312 = .idle := by decide +kernel

/-- R51, R109: an ignored REOFFER leaves the round state IDLE, that of a given-up start too. -/
theorem test_reoffer_ignored :
    let s := receiving (st4.setRol ⟨[stem 302 612], none⟩)
    let t := after (.reofferReceived 9 (stem 302 612)) (s.setClu ⟨.lost, some candidate301, true⟩)
    t.clu = .atRest ∧ t.lbi.reclaimReserve = some 1000 := by decide +kernel

/-- R106, R107: the head is driven, and leaves the list at the successful end, which opens the reclaim
reserve. -/
theorem test_reoffer_send_and_sent :
    let s := (st4.setRol ⟨[stem 298 612, stem 299 615], none⟩)
    (after .reofferSend (idleBus s)).lbi.tx = some (.reoffer 4 (stem 298 612)) ∧
      (after .reofferSent (driving (.reoffer 4 (stem 298 612))
        (s.setRol { s.rol with sending := some 298 }))).rol.entries = [stem 299 615] := by decide +kernel

/-! ## The bus -/

/-- R148: the second mismatch raises BUS-FAULT and sets the count back to 0. -/
theorem test_transmit_mismatch :
    let s := driving (.conflict 4) (st4.setLbi { st4.lbi with notices := [.conflict] })
    (after (.transmitMismatch false) s).lbi.mismatches = 1 ∧
      (after (.transmitMismatch false) (s.setLbi { s.lbi with mismatches := 1 })).alc.current =
        some ⟨.busFault, 0, 300⟩ := by decide +kernel

/-- R143: the end of another device's CLAIM ends the claim reserve; R42: a LOST round is over. -/
theorem test_claim_received :
    let s := receiving (inRound .lost candidate301 st11)
    let t := after (.claimReceived .claim) (s.setLbi { s.lbi with claimReserve := some 990 })
    t.lbi.claimReserve = none ∧ t.clu.round = .idle := by decide +kernel

/-- R140: a bad ANNOUNCE ends announce pending and opens the claim reserve; a bad REOFFER the reclaim reserve. -/
theorem test_bad_check_frame :
    let s := receiving (st4.setLbi { st4.lbi with announcePending := some 900 })
    (after (.badCheckFrame .announce) s).lbi.announcePending = none ∧
      (after (.badCheckFrame .announce) s).lbi.claimReserve = some 1000 ∧
      (after (.badCheckFrame .reoffer) s).lbi.reclaimReserve = some 1000 := by decide +kernel

/-- R140: a frame of kind 0 cut short ends announce pending, opens no reserve, and leaves the bus idle. -/
theorem test_frame_cut_short :
    let t := after (.frameCutShort .announce) (receiving (st4.setLbi { st4.lbi with announcePending := some 900 }))
    t.lbi.announcePending = none ∧ t.lbi.claimReserve = none ∧ t.busIdle = true := by decide +kernel

/-- R139: a kind of 11..15 sends the receiver to WAITING FOR IDLE, and BUS_IDLE back. -/
theorem test_unknown_kind_and_idle :
    let t := after (.unknownKindFrame 15) (receiving st4)
    t.lbi.receiver = .waitingIdle ∧ (after .busIdle t).busIdle = true := by decide +kernel

/-- R143: 24 quiet bit times end a reserve. -/
theorem test_reserve_ends :
    let s := st4.setLbi { st4.lbi with claimReserve := some 1000, reclaimReserve := some 1001 }
    (after .claimReserveEnd s).lbi.claimReserve = none ∧ (after .claimReserveEnd s).now = 1024 ∧
      (after .reclaimReserveEnd s).lbi.reclaimReserve = none ∧
      (after .reclaimReserveEnd s).now = 1025 := by decide +kernel

/-- R149, R151: the head of the queue is driven, an ALERT with the record as it stands. -/
theorem test_notice_send :
    let s := attn ⟨.miss, 2210, 2260⟩ [] (st4.setLbi { st4.lbi with notices := [.alert, .conflict] })
    (after .noticeSend (idleBus s)).lbi.tx = some (.alert 4 (some ⟨.miss, 2210, 2260⟩) false) := by
  decide +kernel

/-- R152: an ALERT that carried the lost flag clears it; R149: it leaves the queue. -/
theorem test_notice_sent :
    let s := driving (.alert 4 none true) (st4.setLbi { st4.lbi with notices := [.alert, .conflict], lost := true })
    (after .noticeSent s).lbi.lost = false ∧ (after .noticeSent s).lbi.notices = [.conflict] := by
  decide +kernel

/-- R140: another station's notice is discarded, but for its end. -/
theorem test_notice_received :
    (after (.noticeReceived .bunch) (receiving st4)).lbi.receiver = .waitingStart := by decide +kernel

/-- Section 10.3's ALERT query: with five notices waiting, three of the four parts join and one is lost. -/
theorem test_query_cut_short :
    let s := stopped ⟨.missRun, 1, 2265⟩ st4
    let s := s.setAlc { s.alc with
      pend1 := [⟨.miss, 2215, 2265⟩, ⟨.stray, 1, 2261⟩], pend2 := [⟨.gateStuck, 1, 2266⟩] }
    let t := after (.query 4 7) (receiving (s.setLbi { s.lbi with notices := List.replicate 5 .conflict }))
    t.lbi.notices.drop 6 = [.status 7 (.alertPart ⟨.gateStuck, 1, 2266⟩),
        .status 7 (.alertPart ⟨.miss, 2215, 2265⟩)] ∧
      t.lbi.lost = true ∧ t.alc.pend1 = [⟨.miss, 2215, 2265⟩, ⟨.stray, 1, 2261⟩, ⟨.noticeLost, 0, 300⟩] := by
  decide +kernel

/-- R173: a topic of 8 is refused, and a QUERY for another station is discarded. -/
theorem test_query_refused :
    (after (.query 4 8) (receiving st4)).lbi.notices = [.status 8 .refused] ∧
      (after (.query 5 8) (receiving st4)).lbi.notices = [] := by decide +kernel

/-! ## Reset, the profile, joining -/

/-- The levels of the qualified pins with one pin active. -/
def only (p : Pin) : Pins Bool := .of fun x => x == p

/-- Section 9.3's example: a cradle at A when reset ends makes STALE-CRADLE 0 current and queues its ALERT. -/
theorem test_reset_stale :
    let t := after (.reset [only (.sensor .a)]) st11
    t.crm.cradleA.state = .stale ∧ t.crm.cradleB.state = .absent ∧
      t.alc.current = some ⟨.staleCradle, 0, 0⟩ ∧ t.lbi.notices = [.alert] ∧ t.mdc.mode = .start := by
  decide +kernel

/-- R182: after a reset in which no power was applied the qualifiers stand, and what they read is what the blocks
take; a sensor still qualifying keeps its run. -/
theorem test_reset_keeps_qualifiers :
    let s := after (.cradlePresent .b) (after .resetHeld st11)
    let q : Qualifier := ⟨true, false, 700, false⟩
    let t := after (.reset []) (s.setInputs (s.inputs.onPins fun p x => if p = .sensor .a then q else x))
    s.crm.cradleB = st11.crm.cradleB ∧ t.crm.cradleB.state = .stale ∧ t.crm.cradleA.state = .absent ∧
      t.qualifier (.sensor .a) = q ∧ t.alc.current = some ⟨.staleCradle, 1, 0⟩ := by decide +kernel

/-- R182: a qualifier takes the level it reads first at power-on and qualifies changes from then on: beam A, blocked
at power-on, is clear at the end of the reset once it has read so for 0.5 ms, 125 bit times, and blocked a bit time
before, with its change still to come. -/
theorem test_power_on_qualifies_in_reset :
    let clear := fun n => List.replicate n (only .key)
    let t := fun n => after (.reset (only (.beam .a) :: clear n)) st11
    (t 125).drc.beamA = Beam.clear ∧ (t 124).drc.beamA = ⟨true, some 0, false⟩ ∧
      (t 124).tick.pending = [.beamClear .a] := by
  decide +kernel

/-- R182: DRAIN held down when reset ends makes no request until it has been released and pressed again. -/
theorem test_held_button :
    let s := (after (.reset [only .drain]) st4).putMode .active
    let released := s.setInputs (s.inputs.onPins fun p q => if p = .drain then .first false else q)
    (after .drain s) = s ∧ (after .drain released).mdc.mode = .idle := by decide +kernel

/-- R182: 0.5 ms, 125 bit times, after beam A came to read blocked its change is the command waiting, and not a bit
time before; a level that returns is forgotten. A cradle sensor takes 50 ms, a button 20 ms, with KEY as read. -/
theorem test_qualifying_times :
    let at_ := fun (p : Pin) (q : Qualifier) (s : State) =>
      s.setInputs (s.inputs.onPins fun x y => if x = p then q else y)
    let tick := fun (s : State) => (s.tick).pending
    tick (at_ (.beam .a) ⟨true, false, 123, false⟩ st4) = [] ∧
      tick (at_ (.beam .a) ⟨true, false, 124, false⟩ st4) = [.beamBlocked .a] ∧
      (at_ (.beam .a) ⟨false, false, 124, false⟩ st4).tick.qualifier (.beam .a) = .quiet ∧
      tick (at_ (.sensor .b) ⟨false, true, 12499, false⟩ st4) = [.cradleAbsent .b] ∧
      tick (at_ .clear ⟨true, false, 4999, false⟩ (at_ .key ⟨true, true, 0, false⟩ st4)) = [.clear true] ∧
      tick (at_ .drain ⟨false, true, 4999, true⟩ st4) = [] := by decide +kernel

/-- R4: the leading edge of PITCH with DIR forward, once. -/
theorem test_pitch_edge :
    let s := st4.setInputs { st4.inputs with pitch := true, dir := true }
    s.tick.pending = [.forwardPulse] ∧ (s.tick.setPending []).tick.pending = [] ∧
      ((s.setInputs { s.inputs with dir := false }).tick).pending = [.reversePulse] := by decide +kernel

/-- R182, R136: while RESETN is low HOLD and the bus are released, and no pulse comes through. -/
theorem test_reset_held :
    let t := after .resetHeld (driving (.conflict 11) (st11.setPtr { st11.ptr with holdBlocked := true }))
    t.lbi.tx = none ∧ t.holdDrive = false ∧ (after .forwardPulse t).ptr.p = some 300 := by decide +kernel

/-- The bytes of an image up to its recipe record 0, tmin 5 and tmax 400 read, and the record. -/
def imageHead : List Byte :=
  [1, 21, 0, 100, 1, 44, 1, 5, 5, 1, 144, 0, 60, 0, 128, 50, 128, 54, 15, 0, 20, 30, 0, 3, 0, 0]

/-- That image: zeros for the records not loaded, and its check. -/
def image : List Byte := imageHead ++ (List.replicate 36 0 ++ [50, 35])

/-- The check of the image in two runs of the register, each short enough for the kernel. -/
theorem test_image_check : imageCheck image = 12835#16 := by
  have h : image.take 62 = imageHead ++ List.replicate 36 0 := by decide
  have k : (imageHead.flatMap fun b => numBits 8 b.toNat).foldl checkStep 0xFFFF#16 = 5341#16 := by
    decide +kernel
  have z : ((List.replicate 36 (0 : Byte)).flatMap fun b => numBits 8 b.toNat).foldl checkStep 5341#16 =
      12835#16 := by decide +kernel
  rw [imageCheck, check, h, List.flatMap_append, List.foldl_append, k, z]

/-- The image has no fault (R157). -/
theorem test_image_good : readFault (.image image) = none := by
  have h : ((imageCheck image).toNat != wordAt image 62) = false := by
    rw [test_image_check]
    decide +kernel
  have k : firstFault (imageFaults image).tail = none := by decide +kernel
  simpa [readFault, firstFault, imageFaults, h] using k

/-- Section 9.3's example: tmin read 5 is clamped to 10 and tmax read 400 to 300; the station joins. 50..54
coarse is 500..549 (R19). -/
theorem test_profile_accepted :
    let t := State.reset.acceptProfile image
    (t.mdc.profile).map (fun f => (f.number, f.d, f.span, f.tmin, f.tmax)) = some (21, 100, 300, 10, 300) ∧
      t.rct.map (fun r => (r.low, r.high, r.n, r.q)) = [(500, 549, 20, 3)] ∧ t.mdc.mode = .joining ∧
      t.mdc.joinTimer = .waiting ∧ t.lbi.notices.length = 1 := by decide +kernel

/-- R181: a failed read raises PROFILE-BAD with parameter 16; recipe 2 with a coarse high limit of 300 gives
146. -/
theorem test_profile_refused :
    (after (.profileReadEnd ⟨0x50, []⟩) State.reset).alc.current = some ⟨.profileBad, 16, 0⟩ ∧
      faultParam 9 2 = 146 ∧ ({ coarse := true, value := 300 } : Limit).coarseFault = true := by
  decide +kernel

/-- R159: 400 ms after the JOIN was sent JOINING becomes ACTIVE. -/
theorem test_join_timer_end :
    let s := st4.setMdc { st4.mdc with mode := .joining, joinTimer := .running 500 }
    (after .joinTimerEnd s).mdc.mode = .active ∧ (after .joinTimerEnd s).now = 100500 := by decide +kernel

/-- R160: the station's own number in a JOIN queues a CONFLICT ahead of the ALERT and stops the station. -/
theorem test_join_received :
    let t := after (.joinReceived 4) (receiving st4)
    t.lbi.notices = [.conflict, .alert] ∧ t.alc.current = some ⟨.duplicate, 4, 300⟩ ∧
      t.mdc.mode = .stopped := by decide +kernel

/-- R160: in a CONFLICT it queues no CONFLICT, and another number changes nothing. -/
theorem test_conflict_received :
    (after (.conflictReceived 4) (receiving st4)).lbi.notices = [.alert] ∧
      (after (.conflictReceived 5) (receiving st4)).mdc.mode = .active := by decide +kernel

/-! ## Cradles, beams, drops -/

/-- R64, R63: an ABSENT cradle becomes EMPTY; a STALE one lifted out becomes ABSENT. -/
theorem test_cradle_sensor :
    (after (.cradlePresent .b) (st4.setCradle .b .absent)).crm.cradleB = emptyCradle ∧
      (after (.cradleAbsent .b) st4).crm.cradleB = .absent := by decide +kernel

/-- R73 at station 11: the pending 298 is re-offered, cradle A is cleared, an ABANDONED BUNCH of three stems with
mean 615 is queued, and PREMATURE-REMOVAL 0 is current. -/
theorem test_cradle_absent_premature :
    let t := after (.cradleAbsent .a) st11
    t.crm.cradleA = .absent ∧ t.rol.entries = [stem 298 618] ∧ t.drc.claims = [] ∧
      t.alc.current = some ⟨.prematureRemoval, 0, 300⟩ ∧
      t.lbi.notices = [.bunch ⟨.a, 0, .abandoned, 3, 605, 625, 615, 0, 0, 11⟩, .alert] ∧
      t.rct.map (·.inProgress) = [1] := by decide +kernel

/-- 11.2 at 860 ms: the landing of 301 completes cradle A, and the BUNCH notice is as the text gives it. -/
theorem test_beam_blocked_completes :
    let s := (st11.setCradle .a
      (building .closing [landed 618, landed 615, landed 625, landed 605] 1 605 625)).setDrc
        { st11.drc with claims := [], falling := [falling 301 620 .a .opened] }
    let t := after (.beamBlocked .a) s
    t.crm.cradleA.state = .complete ∧ t.crm.cradleA.completion = some .full ∧
      t.lbi.notices = [.bunch ⟨.a, 0, .full, 5, 605, 625, 617, 0, 0, 12⟩] ∧
      t.rct.map (fun r => (r.made, r.inProgress)) = [(12, 1)] ∧ t.drc.falling = [] := by decide +kernel

/-- Section 5.9's example at 250 ms: with no OPEN entry for B, beam B's break is STRAY 1. -/
theorem test_beam_blocked_stray :
    let s := st11.setDrc { st11.drc with falling := [falling 301 620 .a .opened, falling 302 620 .b .waiting] }
    (after (.beamBlocked .b) s).alc.current = some ⟨.stray, 1, 300⟩ ∧
      (after (.beamBlocked .b) s).drc.falling = s.drc.falling := by decide +kernel

/-- R88: a beam that clears stops its timer. -/
theorem test_beam_clear :
    (after (.beamClear .a) (st4.setBeam .a ⟨true, some 500, true⟩)).drc.beamA = Beam.clear := by decide +kernel

/-- 11.4: the window opens 30 ms (7500 bit times) after the fire, and the MISS of 297 comes at 120 ms; cradle A
goes back to FILLING, MISS 297 is current, and the miss run is 1. -/
theorem test_window_open_and_miss :
    let s := (st17.setCradle .a (building .closing [landed 640, landed 645, landed 635, landed 628] 1 628 645)).setDrc
      { st17.drc with claims := [], falling := [falling 297 632 .a .waiting] }
    let u := after .windowOpen s
    let t := after .miss u
    u.now = 8400 ∧ t.now = 30900 ∧ t.crm.cradleA =
        building .filling [landed 640, landed 645, landed 635, landed 628] 0 628 645 ∧
      t.alc.current = some ⟨.miss, 297, 300⟩ ∧ t.drc.missRun = 1 ∧ t.drc.falling = [] := by decide +kernel

/-- R93: the third miss in a row raises MISS-RUN, which stops the station; the MISS is saved. -/
theorem test_miss_run :
    let s := st11.setDrc { st11.drc with missRun := 2, claims := [], falling := [falling 298 618 .a .opened] }
    (after .miss s).alc.current = some ⟨.missRun, 0, 300⟩ ∧
      (after .miss s).alc.saved = some ⟨.miss, 298, 300⟩ ∧ (after .miss s).mdc.mode = .stopped := by
  decide +kernel

/-- R163, R93: a third miss that empties the last building cradle in DRAINING takes the station to IDLE at that
moment, and IDLE is the mode that STOP saves. -/
theorem test_miss_run_saves_idle :
    let s := (((st4.setCradle .a (building .filling [] 1 618 618)).putMode .draining).setDrc
      { st4.drc with missRun := 2, falling := [falling 298 618 .a .opened] })
    (after .miss s).alc.savedMode = some .idle ∧ (after .miss s).mdc.mode = .stopped ∧
      (after .miss s).crm.cradleA = emptyCradle := by decide +kernel

/-- R85: the gate pulse lasts 15 ms, which is 3750 bit times. -/
theorem test_gate_pulse_end :
    let t := after .gatePulseEnd (st4.setDrc { st4.drc with gate := some 1000 })
    t.drc.gate = none ∧ t.now = 4750 := by decide +kernel

/-- 11.3: the stop of station 4 by GATE-STUCK 1 gives up 302, 303 and 304 to the Re-offer List, and cradle A goes
from CLOSING to FILLING with envelope 610..620. -/
theorem test_gate_stuck_stops :
    let s := (st4.setCradle .a (building .closing [landed 620, landed 610] 3 610 628)).setDrc
      { st4.drc with claims := [⟨stem 302 612, .a, .claim⟩, ⟨stem 303 615, .a, .claim⟩, ⟨stem 304 628, .a, .claim⟩] }
    let s := attn ⟨.stray, 1, 290⟩ [] ((s.setPtr { s.ptr with p := some 305, h := some 304 }).setBeam .b ⟨true, some 0, false⟩)
    let t := after (.gateStuck .b) s
    t.alc.current = some ⟨.gateStuck, 1, 305⟩ ∧ t.alc.saved = some ⟨.stray, 1, 290⟩ ∧
      t.alc.savedMode = some .active ∧ t.rol.entries.map (·.tag) = [302, 303, 304] ∧
      t.crm.cradleA = building .filling [landed 620, landed 610] 0 610 620 ∧ t.drc.gateLock = true ∧
      t.ptr.holdStop = false := by decide +kernel

/-- R71: at the removal limit, 60 s, REMOVAL-OVERDUE is raised and the count starts again from 0. -/
theorem test_removal_overdue :
    let s := st4.setCradle .b ⟨.complete, some 0, [landed 605], 0, some ⟨605, 605⟩, some 1000, some .short⟩
    (after (.removalOverdue .b) s).alc.current = some ⟨.removalOverdue, 1, 300⟩ ∧
      (after (.removalOverdue .b) s).crm.cradleB.removal = some 15001000 := by decide +kernel

/-! ## The panel -/

/-- Section 4.7's PULL: the top entry, 615, is popped, and the envelope is recomputed. -/
theorem test_pull :
    (after (.pull .a) st11).crm.cradleA = building .filling [landed 625, landed 605] 1 605 625 ∧
      (after (.pull .b) st4).alc.refuse = some 1000 := by decide +kernel

/-- R69: a PULL that leaves k = 0 unbinds the cradle. -/
theorem test_pull_unbinds :
    (after (.pull .b) st11).crm.cradleB = emptyCradle ∧
      (after (.pull .b) st11).rct.map (·.inProgress) = [1] := by decide +kernel

/-- R76: FINISH with the key closes cradle A SHORT and re-offers its pending stem; without the key it is
refused. -/
theorem test_finish :
    let t := after (.finish .a true) st11
    t.crm.cradleA.state = .complete ∧ t.crm.cradleA.completion = some .short ∧
      t.lbi.notices = [.bunch ⟨.a, 0, .short, 3, 605, 625, 615, 0, 0, 12⟩] ∧
      t.rol.entries = [stem 298 618] ∧ (after (.finish .a false) st11).alc.refuse = some 1000 := by
  decide +kernel

/-- Section 7.7's example: the CLEARs of the nested alerts: refused without the key; the promotion of GATE-STUCK;
the end of STOP restoring MISS 2210. -/
theorem test_clear_in_stop :
    let s := stopped ⟨.missRun, 1, 2265⟩ st4
    let s := s.setAlc { s.alc with saved := some ⟨.miss, 2210, 2260⟩, pend2 := [⟨.gateStuck, 1, 2266⟩] }
    (after (.clear false) s).alc.refuse = some 1000 ∧
      (after (.clear true) s).alc.current = some ⟨.gateStuck, 1, 2266⟩ ∧
      (after (.clear true) (after (.clear true) s)).alc.current = some ⟨.miss, 2210, 2260⟩ ∧
      (after (.clear true) (after (.clear true) s)).mdc.mode = .active := by decide +kernel

/-- R126: in ATTN an event record retires without the key, a condition record does not. -/
theorem test_clear_in_attn :
    (after (.clear false) (attn ⟨.miss, 1, 1⟩ [⟨.stray, 0, 2⟩] st4)).alc.current = some ⟨.stray, 0, 2⟩ ∧
      (after (.clear true) (attn ⟨.blocked, 0, 1⟩ [] st4)).alc.refuse = some 1000 := by decide +kernel

/-- R129: CANCEL keeps the condition codes. -/
theorem test_cancel :
    (after .cancel (attn ⟨.miss, 1, 1⟩ [⟨.blocked, 0, 3⟩, ⟨.miss, 5, 2⟩, ⟨.stray, 0, 2⟩] st4)).alc.pend1 =
      [⟨.blocked, 0, 3⟩] := by decide +kernel

/-- R163: DRAIN goes on to IDLE when no cradle is building. -/
theorem test_drain :
    (after .drain st4).mdc.mode = .draining ∧
      (after .drain (st4.setCradle .a emptyCradle)).mdc.mode = .idle := by decide +kernel

/-- R164: RESUME in IDLE needs a recipe that can bind. -/
theorem test_resume :
    let s := (st4.setCradle .a emptyCradle).putMode .idle
    (after .resume s).mdc.mode = .active ∧
      (after .resume (s.setRct [{ recipe0 with exhausted := true }])).alc.refuse = some 1000 := by
  decide +kernel

/-- R132: the REFUSE pulse lasts 200 ms, which is 50000 bit times. -/
theorem test_refuse_pulse_end :
    let t := after .refusePulseEnd (st4.setAlc { st4.alc with refuse := some 1000 })
    t.alc.refuse = none ∧ t.now = 51000 := by decide +kernel

/-! ## The step, and soundness of the stations above -/

/-- The first command waiting is run, with the rest left waiting (log 7 for the empty queue). -/
theorem test_step :
    step (st4.setPending [.cancel, .drain]) = .next (st4.setPending [.drain]) ∧
      step st4 = .next ((st4.setNow 1001).setLbi { st4.lbi with openRun := 1 }) := by
  constructor <;> rfl

/-- The accepted read, as the command takes it, with the bytes at device 1010011 (R155, R158, R182). -/
theorem test_profile_read_end :
    exec (.profileReadEnd ⟨0b1010011, image.map some⟩) State.reset =
      .next (State.reset.acceptProfile image) := by
  have h := SerialMemory.read_image image [] (by decide)
  rw [List.append_nil] at h
  simp only [exec, execProfileReadEnd, h, test_image_good, running]
  rfl

/-- R155: a byte not acknowledged, the last one too, or a device at another address, fails the read. -/
theorem test_memory_read :
    (SerialMemory.mk 0b1010011 (List.replicate 63 (some 0))).read = .failed ∧
      (SerialMemory.mk 0b1010011 (none :: List.replicate 63 (some 0))).read = .failed ∧
      (SerialMemory.mk 0b1010010 (List.replicate 64 (some 0))).read = .failed ∧
      (SerialMemory.mk 0b1010011 (List.replicate 65 (some 0))).read = .image (List.replicate 64 0) := by
  decide +kernel

/-! ## Witnesses: states and operands that meet the hypotheses of each statement

Named after the statements of Certificates/Slice0/Obligations.lean; a conjunct for each clause, at the boundary
values of its ranges. Statements not named here have no hypotheses. -/

/-- A recipe with quota 3 and another count of stems. -/
def quota3 (n made inProgress : Nat) : Recipe :=
  { recipe0 with n := n, q := 3, made := made, inProgress := inProgress }

/-- The pitch that brings the head, 298, to `x` pitches from the gauge. -/
def headAt (x : Nat) (s : State) : State := s.setPtr { s.ptr with p := some (297 + BitVec.ofNat 12 x) }

/-- A state with falling entries and no claims. -/
def dropping (l : List Falling) (s : State) : State := s.setDrc { s.drc with claims := [], falling := l }

theorem witness_StepRunsFrontCommand :
    (st11.setPending [.cancel]).pending = .cancel :: [] ∧ st11.pending = [] ∧
      st11.inReset = false ∧ (st11.setInReset true).inReset = true ∧
      exec .reversePulse State.reset = .next State.reset ∧ (∀ q, Instr.reversePulse ≠ .reset q) :=
  ⟨rfl, rfl, rfl, rfl, rfl, by simp⟩

theorem witness_CommandRefusedExactlyWhenIllFormed :
    Instr.cancel.wellFormed = true ∧ (Instr.unknownKindFrame 11).wellFormed = true ∧
      (Instr.unknownKindFrame 10).wellFormed = false ∧
      (Instr.noticeReceived .join).wellFormed = false := by decide +kernel

/-- A sensor one bit time short of its change. -/
theorem witness_SoundAfterReset :
    let s := st11.setInputs (st11.inputs.onPins fun p q => if p = .sensor .a then ⟨true, false, 12499, false⟩ else q)
    (∀ p, (s.qualifier p).run < p.qualifyTime) ∧ (s.qualifier (.sensor .a)).run + 1 = Pin.qualifyTime (.sensor .a) ∧
      (∃ t, exec (.reset []) s = .next t) ∧ ∃ t, exec (.reset [only .key]) s = .next t := by
  refine ⟨fun p => ?_, rfl, ⟨_, rfl⟩, _, rfl⟩
  rcases p with (_ | _) | (_ | _) | (_ | _) | (_ | _) | _ | _ | _ | _ | _ <;> decide +kernel

theorem sound_st4 : Sound st4 :=
  ⟨by decide +kernel, by decide +kernel, by decide +kernel, by decide +kernel⟩
theorem sound_st11 : Sound st11 :=
  ⟨by decide +kernel, by decide +kernel, by decide +kernel, by decide +kernel⟩
theorem sound_st17 : Sound st17 :=
  ⟨by decide +kernel, by decide +kernel, by decide +kernel, by decide +kernel⟩

/-- The premises of the four invariants: a sound station with a command waiting, and one with none. -/
def waiting : State := st11.setPending [.forwardPulse]
theorem witness_EveryStepKeepsTheBooks : Sound waiting ∧ ∃ t, step waiting = .next t :=
  ⟨⟨by decide +kernel, by decide +kernel, by decide +kernel, by decide +kernel⟩, _, rfl⟩
theorem witness_EveryStepKeepsTheAlertRecords : Sound waiting ∧ ∃ t, step waiting = .next t :=
  witness_EveryStepKeepsTheBooks
theorem witness_EveryStepKeepsTheBusInStep : Sound waiting ∧ ∃ t, step waiting = .next t :=
  witness_EveryStepKeepsTheBooks
theorem witness_EveryStepKeepsTheTracker :
    (Sound waiting ∧ ∃ t, step waiting = .next t) ∧ Sound st17 ∧ ∃ t, step st17 = .next t :=
  ⟨witness_EveryStepKeepsTheBooks, sound_st17, _, rfl⟩

theorem witness_SoundBooksKeepCountAndSpread :
    Sound st11 ∧ st11.boundRecipe (st11.cradle .a) = some recipe0 ∧ recipe0.s ≠ 255 ∧
      625 ∈ st11.lengths .a ∧ 605 ∈ st11.lengths .a :=
  ⟨sound_st11, by decide +kernel, by decide, by decide +kernel, by decide +kernel⟩

/-- A frame of all ones, which is stuffed, and one of all zeros. -/
theorem witness_ReceiverReadsWhatIsSent :
    (RawFrame.mk .announce [4095, 2047, 7, 7]).wellFormed = true ∧
      (RawFrame.mk .status [63, 15, 1, 2 ^ 48 - 1]).wellFormed = true ∧
      (RawFrame.mk .conflict [0]).wellFormed = true := by decide +kernel

theorem witness_FramesArriveAsTheirCommands :
    1048575 < 2 ^ 20 ∧ 2047 < 2048 ∧ 1 ≤ 4 ∧ 4 ≤ 4 ∧
      (RawFrame.mk .quota [63, 3, 4095]).wellFormed = true := by decide

theorem witness_ForwardPulseAdvancesTheTag :
    st11.inReset = false ∧ st11.clu.round ≠ .won ∧ st11.idleNow = false ∧ st4.drc.claims = [] ∧
      (st11.setPtr { st11.ptr with p := none, h := none }).ptr.p = none ∧
      (inRound .bidding candidate301 st11).drivingClaim = false ∧ (won candidate301 st11).drivingClaim = true := by
  decide

/-- An episode another party keeps up, at the fourth pulse; one the station keeps up; none. -/
theorem witness_ForwardPulseCountsTheCoast :
    let s := st11.setPtr { st11.ptr with holdOthers := true, holdRead := true, coast := 3 }
    let own := st11.setPtr { st11.ptr with holdStop := true, holdRead := true, coast := 4 }
    s.inReset = false ∧ s.ptr.holdOthers = true ∧ s.ptr.holdRead = true ∧ s.ptr.coast = 3 ∧
      own.ptr.holdOthers = false ∧ own.ptr.holdRead = true ∧ own.ptr.coast ≠ 3 ∧
      st11.ptr.holdRead = false := by decide

/-- Two heads past D, at the two ends of the range, and then a head at D, with room in the falling list and with
none; a head short of D; a head upstream; no head. -/
theorem witness_ForwardPulseServesTheHead :
    let f : Profile := ⟨11, 8, 12, 30, 120, 60, false, false, true⟩
    let c := fun tag => (⟨stem tag 618, .a, .claim⟩ : Claim)
    let s := st11.setDrc { st11.drc with claims := [c 2355, c 297] ++ c 298 :: [c 301] }
    let full := dropping (List.replicate 4 (falling 280 610 .a .waiting)) st11
    st11.inReset = false ∧ (s.setPtr { s.ptr with p := some 305 }).ptr.p = some 305 ∧
      st11.mdc.profile = some f ∧ s.drc.claims = [c 2355, c 297] ++ c 298 :: [c 301] ∧
      pos (305 + 1) 2355 = 2047 ∧ pos (305 + 1) 297 = 9 ∧ f.d = 8 ∧ pos (305 + 1) 298 = 8 ∧
      st11.drc.falling.length < 4 ∧ 4 ≤ full.drc.falling.length ∧ pos (305 + 1) 299 = 7 ∧
      pos (305 + 1) 2354 = 2048 ∧ (∀ e ∈ ([] : List Claim).head?, pos 306 e.stem.tag ≤ 8) := by
  decide +kernel

theorem witness_ReversePulseTakesTheTagBack :
    State.reset.inReset = false ∧ State.reset.ptr.p = none ∧ st11.ptr.p = some 300 := by decide

theorem witness_AnnounceBringsTheTrackerIntoLine :
    (receiving st11).inReset = false ∧ (receiving st11).receiving = true ∧
      (300 : Tag) ∈ (receiving st11).ptr.p ∧ (300 : Tag) ≠ 301 ∧
      (receiving st11).ptr.p.all (· == 300) = true ∧ (receiving st11).ptr.gaugeSilent = false := by
  decide

theorem witness_AnnounceOpensAClaimRound :
    (receiving st11).inReset = false ∧ (receiving st11).receiving = true ∧
      ((receiving st11).choose .claim (stem 301 620)).isSome = true := by decide +kernel

theorem witness_AnnouncePendingEndCountsThePitch :
    let s := st4.setPtr { st4.ptr with announceExpected := true, unannounced := 7 }
    let s := s.setLbi { s.lbi with announcePending := some 600 }
    s.inReset = false ∧ s.lbi.announcePending = some 600 ∧ s.ptr.announceExpected = true ∧
      s.ptr.unannounced = 7 ∧ s.ptr.gaugeSilent = false := by decide

theorem witness_HoldLevelChangeSetsTheEpisode : st11.inReset = false := rfl

theorem witness_FramesTakenOnlyForTheirEnd :
    (receiving st11).inReset = false ∧ (receiving st11).receiving = true ∧
      FrameKind.alert ≠ .announce ∧ FrameKind.claim ≠ .reoffer ∧ (receiving st11).number ≠ some 12 := by
  decide

theorem witness_FramesThatFail :
    (receiving st11).inReset = false ∧ (receiving st11).receiving = true ∧
      11 ≤ (11 : BitVec 4).toNat ∧ 11 ≤ (15 : BitVec 4).toNat := by decide

theorem witness_MarksIdleAndReserveEnds :
    let s := st11.setLbi { st11.lbi with claimReserve := some 990, reclaimReserve := some 990 }
    s.inReset = false ∧ s.lbi.receiver ≠ .inFrame ∧ s.lbi.receiver = .waitingStart ∧
      State.reset.lbi.receiver = .waitingIdle ∧ s.lbi.claimReserve = some 990 ∧
      s.lbi.reclaimReserve = some 990 := by decide

theorem witness_ArbitrationLossStopsDriving :
    let s := driving (.claim .claim 301 651) (inRound .bidding candidate301 st11)
    s.inReset = false ∧ s.lbi.tx = some (.claim .claim 301 651) ∧ s.drivingClaim = true ∧
      s.clu.round = .bidding ∧ (driving (.conflict 11) st11).drivingClaim = false := by decide

theorem witness_TransmitMismatchIsCounted :
    let s := driving (.claim .claim 301 651) (inRound .won candidate301 st11)
    s.inReset = false ∧ s.lbi.tx = some (.claim .claim 301 651) ∧ s.lbi.mismatches = 0 ∧
      (s.setLbi { s.lbi with mismatches := 1 }).lbi.mismatches = 1 ∧ s.level ≠ .stop ∧
      (stopped ⟨.busFault, 0, 1⟩ st11).level = .stop ∧ s.drivingClaim = true := by decide

theorem witness_ClaimFrameStartsAndIsWon :
    let s := inRound .bidding candidate301 (st11.setLbi { st11.lbi with claimReserve := some 1000 })
    let c : Candidate := { candidate301 with kind := .reclaim }
    let r := inRound .bidding c (st11.setLbi { st11.lbi with reclaimReserve := some 1000 })
    s.inReset = false ∧ s.clu.round = .bidding ∧ s.clu.chosen = some candidate301 ∧ s.lbi.tx = none ∧
      candidate301.kind = .claim ∧ s.lbi.claimReserve = some 1000 ∧ c.kind = .reclaim ∧
      r.lbi.reclaimReserve = some 1000 ∧
      (driving (.claim .claim 301 651) s).lbi.tx = some (.claim .claim candidate301.stem.tag 651) := by
  decide

/-- Tag 301 at station 11: it closes cradle A, its spread, 20, being just S. -/
theorem witness_WonFrameCommitsToAFillingCradle :
    let s := won candidate301 (st11.setPtr { st11.ptr with p := some 301 })
    s.inReset = false ∧ s.clu.round = .won ∧ s.clu.chosen = some candidate301 ∧
      s.lbi.tx = some (.claim candidate301.kind candidate301.stem.tag candidate301.bid) ∧
      candidate301.opening = false ∧ s.mdc.mode = .active ∧
      (s.cradle candidate301.cradle).state = .filling ∧
      (s.cradle candidate301.cradle).recipe = some candidate301.recipe ∧
      s.rct[candidate301.recipe]? = some recipe0 ∧
      (widen (s.cradle candidate301.cradle).envelope candidate301.stem.length.val).spread = recipe0.s ∧
      s.notReached candidate301.stem.tag = true := by decide +kernel

theorem witness_WonFrameOpensAnEmptyCradle :
    let c : Candidate := ⟨.claim, stem 301 620, .b, 0, true, 720900⟩
    let s := won c (st4.setRct [quota3 1 2 0])
    s.inReset = false ∧ s.clu.round = .won ∧ s.clu.chosen = some c ∧
      s.lbi.tx = some (.claim c.kind c.stem.tag c.bid) ∧ c.opening = true ∧ s.mdc.mode = .active ∧
      (s.cradle c.cradle).state = .empty ∧ (s.cradle c.cradle).stack = [] ∧
      s.rct[c.recipe]? = some (quota3 1 2 0) ∧ (quota3 1 2 0).exhausted = false ∧
      (quota3 1 2 0).made + (quota3 1 2 0).inProgress < (quota3 1 2 0).q ∧
      (s.setPtr { s.ptr with p := some 305 }).notReached c.stem.tag = true := by decide +kernel

/-- Each ground for a forfeit: the mode, the position (the carrier just at the station), the opening candidate's
mode, cradle and recipe, the filling candidate's cradle and recipe. -/
theorem witness_WonFrameForfeitedAtOnce :
    let s := won candidate301 (st11.setPtr { st11.ptr with p := some 301 })
    let o : Candidate := { candidate301 with opening := true, cradle := .b }
    s.inReset = false ∧ s.clu.round = .won ∧ s.clu.chosen = some candidate301 ∧
      s.lbi.tx = some (.claim candidate301.kind candidate301.stem.tag candidate301.bid) ∧
      ((s.putMode .idle).mdc.mode ≠ .active ∧ (s.putMode .idle).mdc.mode ≠ .draining) ∧
      (s.setPtr { s.ptr with p := some 309 }).notReached candidate301.stem.tag = false ∧
      (o.opening = true ∧ (s.putMode .draining).mdc.mode ≠ .active ∧ (s.cradle .b).state ≠ .empty ∧
        ([quota3 5 2 1][0]?).any (·.canBind) = false) ∧
      candidate301.opening = false ∧ ((s.setCradle .a .absent).cradle .a).state ≠ .filling ∧
      ((s.setCradle .a { s.cradle .a with recipe := some 1 }).cradle .a).recipe ≠
        some candidate301.recipe := by decide +kernel

theorem witness_ReofferOpensAReclaimRound :
    (receiving st17).inReset = false ∧ (receiving st17).receiving = true ∧
      ((receiving st17).choose .reclaim (stem 299 612)).isSome = true := by decide +kernel

theorem witness_BidFields :
    (limitRecipe 1 30 true).fallback = true ∧ (limitRecipe 1 30 false).fallback = false ∧
      0 + 1 = (limitRecipe 1 30 false).n ∧ 1 + 1 ≠ (limitRecipe 3 30 false).n ∧
      0 + 1 ≠ (limitRecipe 2 30 false).n ∧ 59 < (limitRecipe 60 30 false).n ∧
      (⟨0, 511⟩ : Envelope).spread ≤ 511 ∧ 511 ≤ (⟨0, 511⟩ : Envelope).spread ∧
      (limitRecipe 2 250 false).fits ⟨0, 250⟩ = true := by decide

theorem witness_BidComposition :
    19 < (limitRecipe 20 30 false).n ∧ 12 < (limitRecipe 20 30 false).n ∧ (9 : StationNo) ≠ 5 ∧
      bidOf (limitRecipe 20 30 false) 19 ⟨520, 545⟩ 9 < bidOf (limitRecipe 20 30 false) 12 ⟨512, 538⟩ 5 := by
  decide

/-- A filling candidate on A and one on B; an opening candidate. -/
theorem witness_ChosenCandidateBidsLowest :
    st11.choose .claim (stem 301 620) = some candidate301 ∧
      (st17.choose .claim (stem 301 620)).map (·.cradle) = some .b ∧
      ((st4.setCradle .a .absent).choose .claim (stem 301 620)).map (·.opening) = some true := by
  decide +kernel

theorem witness_ReofferListTakesOrDiscards :
    State.reset.mdc.profile = none ∧
      st11.mdc.profile = some ⟨11, 8, 12, 30, 120, 60, false, false, true⟩ := by decide

/-- Three entries across the wrap of the tags, and a new one between them, in the list and in the queue of claims. -/
theorem witness_InsertionKeepsTagOrder :
    let l := [stem 4095 610, stem 3 610, stem 2040 610]
    (∀ x ∈ stem 1 610 :: l, (x.tag - (4090 : Tag)).toNat < 2048) ∧ (∀ x ∈ l, x.tag ≠ (stem 1 610).tag) ∧
      l.Pairwise (fun x y => tagBefore x.tag y.tag = true) ∧
      (∀ x ∈ (⟨stem 304 610, .a, .claim⟩ : Claim) :: st17.drc.claims, (x.stem.tag - (290 : Tag)).toNat < 2048) ∧
      st17.drc.claims.Pairwise (fun x y => tagBefore x.stem.tag y.stem.tag = true) ∧
      (∀ x ∈ [(100 : Tag), 2000], tagBefore 2148 x = false) ∧ (∀ x ∈ ([] : List Tag), tagBefore x 2148 = false) := by
  decide +kernel

theorem witness_ReofferIsSentAndLeaves :
    let s := idleBus (st4.setRol ⟨[stem 250 612, stem 299 615], none⟩)
    let n := idleBus ((st4.setRol ⟨[stem 250 612], none⟩).setLbi { st4.lbi with notices := [.conflict] })
    s.inReset = false ∧ s.startPoint = true ∧ s.number = some 4 ∧ s.rol.sending = none ∧ s.rol.entries ≠ [] ∧
      s.rol.entries.filter (fun e => !s.expired e.tag) = stem 299 615 :: [] ∧
      n.rol.entries.filter (fun e => !n.expired e.tag) = [] ∧ n.lbi.notices ≠ [] ∧ n.startPoint = true ∧
      (n.setLbi { n.lbi with notices := [] }).lbi.notices = [] ∧
      (driving (.reoffer 4 (stem 299 615)) s).lbi.tx = some (.reoffer 4 (stem 299 615)) ∧
      (s.setRol ⟨[stem 299 615], some 299⟩).rol.sending = some (stem 299 615).tag := by decide +kernel

theorem witness_NoticeSendDrivesTheHead :
    let s := (idleBus (st4.setLbi { st4.lbi with notices := [.alert] })).setRol ⟨[stem 250 612], none⟩
    s.inReset = false ∧ s.startPoint = true ∧ s.number = some 4 ∧
      (∀ e ∈ s.rol.entries, s.expired e.tag = true ∧ s.rol.sending ≠ some e.tag) ∧
      s.lbi.notices = .alert :: [] := by decide +kernel

theorem witness_NoticeSentLeavesTheQueue :
    let s := driving (.alert 4 none true) (st4.setLbi { st4.lbi with notices := [.alert] })
    s.inReset = false ∧ s.lbi.tx = some (.alert 4 none true) ∧ (Frame.alert 4 none true).isNotice = true := by
  decide

/-- Seven notices, so that a second part is lost; eight; none. -/
theorem witness_QueryAnswerJoinsTheQueue :
    let s := receiving (st4.setLbi { st4.lbi with notices := List.replicate 7 .conflict })
    s.inReset = false ∧ s.receiving = true ∧ s.number = some 4 ∧ s.lbi.notices.length < 8 ∧
      8 < (s.lbi.notices ++ s.crm.cradleA.bodies.map (Notice.status 1)).length ∧ s.lbi.lost = false ∧
      8 ≤ (s.setLbi { s.lbi with notices := List.replicate 8 .conflict }).lbi.notices.length := by
  decide

theorem witness_ResetHeldReleasesTheOutputs :
    (st11.setInReset true).inReset = true ∧ Instr.forwardPulse.wellFormed = true ∧
      (∀ powerOn, Instr.forwardPulse ≠ .reset powerOn) ∧ Instr.forwardPulse ≠ .resetHeld := by
  simp [Instr.wellFormed]

theorem witness_AcceptedImageIsInRange :
    readFault (.image image) = none ∧ (recipesOf image)[0]? = some (recipeAt image 0) ∧
      byteAt image 8 < 10 ∧ 300 < wordAt image 9 ∧ wordAt image 11 = 60 :=
  ⟨test_image_good, by decide +kernel, by decide, by decide, by decide⟩

theorem witness_GoodProfileIsAccepted :
    State.reset.inReset = false ∧ State.reset.mdc.profileRead = .reading ∧ image.length = 64 ∧
      readFault (.image image) = none ∧ State.reset.mdc.mode = .start ∧ State.reset.crm.blocked = false ∧
      State.reset.lbi.notices.length < 8 :=
  ⟨rfl, rfl, by decide, test_image_good, rfl, rfl, by decide⟩

theorem witness_BadProfileStopsTheStation :
    State.reset.inReset = false ∧ State.reset.mdc.profileRead = .reading ∧
      State.reset.mdc.profile = none ∧ State.reset.rct = [] ∧
      readFault (SerialMemory.mk 0b1010011 [some 1, none]).read = some 16 ∧
      ([some 1, none] : List (Option Byte)).getD 1 none = none ∧ (0x50 : BitVec 7) ≠ 0b1010011 ∧ State.reset.mdc.mode = .start ∧ State.reset.level ≠ .stop ∧
      (stopped ⟨.busFault, 0, 0⟩ State.reset).level = .stop := by decide

theorem witness_JoinTimerEndsJoining :
    let s := st4.setMdc { st4.mdc with mode := .joining, joinTimer := .running 500 }
    s.inReset = false ∧ s.mdc.joinTimer = .running 500 ∧ s.mdc.mode = .joining ∧
      (stopped ⟨.busFault, 0, 0⟩ s).mdc.mode = .stopped ∧
      (stopped ⟨.busFault, 0, 0⟩ s).alc.savedMode = some .joining := by decide

theorem witness_OwnNumberHeardIsDuplicate :
    let s := receiving st4
    let full := s.setLbi { s.lbi with notices := List.replicate 8 .conflict }
    s.inReset = false ∧ s.receiving = true ∧ s.number = some 4 ∧ s.lbi.notices.length < 8 ∧
      8 ≤ full.lbi.notices.length ∧ full.lbi.lost = false ∧ full.number = some 4 ∧ full.receiving = true ∧
      s.level ≠ .stop ∧ (stopped ⟨.busFault, 0, 0⟩ s).level = .stop := by decide

theorem witness_CradleSensorChanges :
    let stale : CradleRec := { CradleRec.absent with state := .stale }
    let s := (State.reset.setCradle .a stale).setAlc
      { State.reset.alc with current := some ⟨.staleCradle, 0, 0⟩ }
    State.reset.inReset = false ∧ (State.reset.cradle .a).state = .absent ∧
      (st4.cradle .b).state = .empty ∧ (s.cradle .a).state = .stale ∧
      (s.cradle (otherCradle .a)).state ≠ .stale ∧ AlertsAgree s ∧ st4.idleNow = false := by
  decide +kernel

theorem witness_PrematureRemoval :
    st11.inReset = false ∧ (st11.cradle .a).state = .filling ∧ (st17.cradle .a).state = .closing ∧
      (st11.cradle .a).recipe = some 0 ∧ st11.rct[0]? = some recipe0 ∧ (won candidate301 st11).wonStems = [stem 301 620] ∧
      (st11.cradle .a).stack ≠ [] ∧ st11.lbi.notices.length < 8 := by decide

/-- The oldest OPEN entry for A stands behind a WAITING one for A and an OPEN one for B; the landing completes
the bunch, or leaves it short; a recipe one bunch short of its quota. -/
theorem witness_BeamBlockedLandsTheOldestOpenStem :
    let before := [falling 299 610 .a .waiting, falling 300 620 .b .opened]
    let s := dropping (before ++ falling 301 620 .a .opened :: []) st11
    let four := s.setCradle .a (building .closing [landed 618, landed 615, landed 625, landed 605] 1 605 625)
    s.inReset = false ∧ (s.beam .a).blocked = false ∧
      s.drc.falling = before ++ falling 301 620 .a .opened :: [] ∧
      (∀ g ∈ before, g.claim.cradle ≠ .a ∨ g.window = .waiting) ∧ (s.cradle .a).recipe = some 0 ∧
      s.rct[0]? = some recipe0 ∧ recipe0.exhausted = false ∧ (quota3 5 2 1).q = (quota3 5 2 1).made + 1 ∧
      (s.cradle .a).stack.length + 1 ≠ recipe0.n ∧ (four.cradle .a).stack.length + 1 = recipe0.n ∧
      s.lbi.notices.length < 8 := by decide +kernel

theorem witness_StrayBreakChangesNothingElse :
    let s := dropping [falling 301 620 .a .opened, falling 302 620 .b .waiting] st11
    s.inReset = false ∧ (s.beam .b).blocked = false ∧ s.crm.blocked = s.blockedNow ∧ s.idleNow = false ∧
      (∀ f ∈ s.drc.falling, f.claim.cradle ≠ .b ∨ f.window = .waiting) := by decide

theorem witness_TimersAndBeamsRunOut :
    let before := [falling 300 620 .b .opened]
    let s := dropping (before ++ falling 301 620 .a .waiting :: []) st11
    s.inReset = false ∧ s.mdc.profile = some ⟨11, 8, 12, 30, 120, 60, false, false, true⟩ ∧
      s.drc.falling = before ++ falling 301 620 .a .waiting :: [] ∧
      (falling 301 620 .a .waiting).window = .waiting ∧ (∀ g ∈ before, g.window = .opened) ∧
      (s.setDrc { s.drc with gate := some 900 }).drc.gate = some 900 ∧
      ((s.setBeam .a ⟨true, some 900, false⟩).beam .a).blocked = true ∧
      (s.setAlc { s.alc with refuse := some 900 }).alc.refuse = some 900 ∧
      ((s.setCradle .a { s.cradle .a with removal := some 900 }).cradle .a).removal = some 900 ∧
      State.reset.mdc.profile = none ∧ ((State.reset.setBeam .a ⟨true, some 900, false⟩).beam .a).blocked = true := by
  decide

theorem witness_MissedStemIsUncommittedAndCounted :
    let s := dropping (falling 298 618 .a .opened :: []) st11
    s.inReset = false ∧ s.mdc.profile = some ⟨11, 8, 12, 30, 120, 60, false, false, true⟩ ∧
      s.drc.falling = falling 298 618 .a .opened :: [] ∧ (falling 298 618 .a .opened).window = .opened ∧
      (s.cradle (otherCradle .a)).building = true ∧ (st4.cradle (otherCradle .a)).building = false ∧
      ((st4.setCradle .a (building .filling [] 1 618 618)).cradle .a).committed ≤ 1 ∧
      s.drc.missRun ≠ 2 ∧ (s.setDrc { s.drc with missRun := 2 }).drc.missRun = 2 ∧ s.level ≠ .stop ∧
      (stopped ⟨.busFault, 0, 0⟩ s).level = .stop := by decide

theorem witness_GateStuckEntersStop :
    let s := st11.setBeam .b ⟨true, some 500, false⟩
    let b := (s.setCradle .a .absent).setCradle .b .absent
    s.inReset = false ∧ (s.beam .b).blocked = true ∧ (s.beam .b).stuckRaised = false ∧
      (s.beam .b).timer = some 500 ∧ s.level ≠ .stop ∧ s.crm.blocked = false ∧
      s.lbi.notices.length < 8 ∧ (stopped ⟨.busFault, 0, 0⟩ s).level = .stop ∧
      (b.setCrm { b.crm with blocked := true }).crm.blocked = true ∧ b.blockedNow = true := by decide

theorem witness_PullPopsTheTopStem :
    st11.inReset = false ∧ (st11.qualifier (.pull .a)).held = false ∧ (st11.cradle .a).state = .filling ∧ (st17.cradle .a).state = .closing ∧
      (st11.cradle .a).stack = landed 615 :: [landed 625, landed 605] ∧ (st11.cradle .a).recipe = some 0 ∧
      st11.rct[0]? = some recipe0 ∧ [landed 625, landed 605].length + (st11.cradle .a).committed ≠ 0 ∧
      (st11.cradle .b).stack = landed 625 :: [] ∧
      ([] : List Landed).length + (st11.cradle .b).committed = 0 := by decide

theorem witness_FinishClosesTheBunchShort :
    st11.inReset = false ∧ (st11.qualifier (.finish .a)).held = false ∧ (st11.cradle .a).state = .filling ∧ (st17.cradle .a).state = .closing ∧
      (st11.cradle .a).stack ≠ [] ∧ (∀ f ∈ st11.drc.falling, f.claim.cradle ≠ .a) ∧
      (st11.cradle .a).recipe = some 0 ∧ st11.rct[0]? = some recipe0 ∧ recipe0.exhausted = false ∧
      (quota3 5 2 1).q = (quota3 5 2 1).made + 1 ∧ st11.lbi.notices.length < 8 := by decide

/-- Each ground for a refusal. -/
theorem witness_RefusedRequestsOnlyPulseRefuse :
    let stuck := (stopped ⟨.gateStuck, 0, 0⟩ st11).setBeam .a ⟨true, none, true⟩
    let s := after (.reset [.of fun _ => true]) st11
    (∀ p ∈ Pin.all, (s.qualifier p).held = true) ∧ (∀ p ∈ Pin.all, (st11.qualifier p).held = false) ∧
      s.inReset = false ∧ st11.inReset = false ∧ ¬ ((st4.cradle .b).state = .filling ∨ (st4.cradle .b).state = .closing) ∧
      ((st11.setCradle .a { st11.cradle .a with stack := [] }).cradle .a).stack = [] ∧
      (∃ f ∈ (dropping [falling 301 620 .a .opened] st11).drc.falling, f.claim.cradle = .a) ∧
      st11.alc.current = none ∧ (attn ⟨.blocked, 0, 1⟩ [] st11).alc.current = some ⟨.blocked, 0, 1⟩ ∧
      (stopped ⟨.duplicate, 11, 0⟩ st11).alc.current = some ⟨.duplicate, 11, 0⟩ ∧
      Cause.isStop .missRun = true ∧ stuck.alc.current = some ⟨.gateStuck, cradleParam .a, 0⟩ ∧
      (stuck.beam .a).blocked = true ∧ (st11.putMode .idle).mdc.mode ≠ .active ∧
      st11.mdc.mode ≠ .draining ∧ st11.mdc.mode ≠ .idle ∧
      ((st11.putMode .idle).setRct [{ recipe0 with exhausted := true }]).rct.any (·.canBind) = false := by
  decide

theorem witness_ClearRetiresAnEventRecord :
    let s := attn ⟨.miss, 298, 300⟩ [⟨.stray, 0, 300⟩] st11
    s.inReset = false ∧ (s.qualifier .clear).held = false ∧ s.alc.current = some ⟨.miss, 298, 300⟩ ∧ Cause.isStop .miss = false ∧
      Cause.isCondition .miss = false ∧ s.lbi.notices.length < 8 ∧
      .alert ∈ (s.setLbi { s.lbi with notices := [.alert] }).lbi.notices ∧ .alert ∉ s.lbi.notices := by
  decide

theorem witness_ClearWithTheKeyInStop :
    let s := stopped ⟨.missRun, 0, 300⟩ st11
    let g := stopped ⟨.gateStuck, 1, 300⟩ st11
    s.inReset = false ∧ (s.qualifier .clear).held = false ∧ s.alc.current = some ⟨.missRun, 0, 300⟩ ∧ s.alc.savedMode = some .active ∧
      Mode.active ≠ .stopped ∧ s.mdc.mode = .stopped ∧ s.lbi.notices.length < 8 ∧
      (∀ c, (1 : BitVec 12) = cradleParam c → (g.beam c).blocked = false) ∧
      (∃ c, (1 : BitVec 12) = cradleParam c) ∧
      (s.setAlc { s.alc with pend2 := [⟨.busFault, 0, 300⟩] }).alc.pend2 = ⟨.busFault, 0, 300⟩ :: [] ∧
      s.alc.pend2 = [] ∧ s.crm.blocked = false ∧ s.alc.saved = none ∧
      (s.setAlc { s.alc with saved := some ⟨.miss, 1, 1⟩ }).alc.saved ≠ none ∧
      (s.setAlc { s.alc with pend1 := [⟨.miss, 1, 1⟩] }).alc.pend1 ≠ [] := by
  refine ⟨rfl, rfl, rfl, rfl, by decide, rfl, by decide, ?_, ⟨.b, rfl⟩, rfl, rfl, rfl, rfl, by decide, by decide⟩
  intro c _
  cases c <;> rfl

theorem witness_CancelRemovesPendingEvents :
    (attn ⟨.miss, 1, 1⟩ [⟨.blocked, 0, 3⟩, ⟨.stray, 0, 2⟩] st4).inReset = false ∧
      (st4.qualifier .cancel).held = false := ⟨rfl, rfl⟩

theorem witness_DrainAndResumeMoveTheMode :
    st11.inReset = false ∧ (st11.qualifier .drain).held = false ∧ (st11.qualifier .resume).held = false ∧
      st11.mdc.mode = .active ∧ st11.someBuilding = true ∧
      (st11.putMode .draining).mdc.mode = .draining ∧ (st11.putMode .idle).mdc.mode = .idle ∧
      st11.rct.any (·.canBind) = true := by decide

end Sys2Proof.Tests
end

section
/-! The arithmetic of tags and positions (R2, R3), the tag order of R2, and the reverse pulse of R6. -/

namespace Sys2Proof.Machine

/-! ## Tags and positions -/

/-- A position is the difference of the tags modulo 4096 (R2, R3), in natural numbers. -/
theorem pos_eq_mod (p t : Tag) : pos p t = (p.toNat + 4096 - t.toNat) % 4096 := by
  have ht : t.toNat < 4096 := t.isLt
  rw [pos, BitVec.toNat_sub]
  omega

theorem pos_lt_4096 (p t : Tag) : pos p t < 4096 := (p - t).isLt

theorem pos_eq_zero_iff (p t : Tag) : pos p t = 0 ↔ t = p := by
  have zero : (0 : Tag).toNat = 0 := rfl
  rw [pos, ← zero, BitVec.toNat_inj, sub_eq_zero, eq_comm]

/-- The two differences of a pair of tags make up the whole range, unless the tags are equal. -/
theorem pos_swap (a b : Tag) : pos a b = (4096 - pos b a) % 4096 := by
  have neg : a - b = -(b - a) := (neg_sub b a).symm
  rw [pos, pos, neg, BitVec.toNat_neg]

/-- `a` is before `b` when the position of `a`, seen from `b`, lies in 1..2047 (R2). -/
theorem tagBefore_iff_pos (a b : Tag) : tagBefore a b = true ↔ 1 ≤ pos b a ∧ pos b a ≤ 2047 := by
  simp only [tagBefore, pos, Bool.and_eq_true, decide_eq_true_eq]

/-- The other way round, the position lies in the upper half of the range. -/
theorem tagBefore_swap_iff_pos (a b : Tag) : tagBefore b a = true ↔ 2049 ≤ pos b a := by
  have lt := pos_lt_4096 b a
  rw [tagBefore_iff_pos, pos_swap a b]
  omega

/-- Neither tag is before the other just when they are equal or half the range apart (R2). -/
theorem tagBefore_neither_iff_pos (a b : Tag) :
    tagBefore a b = false ∧ tagBefore b a = false ↔ pos b a = 0 ∨ pos b a = 2048 := by
  rw [← Bool.not_eq_true, ← Bool.not_eq_true, tagBefore_iff_pos, tagBefore_swap_iff_pos]
  omega

/-- A tag taken back by one wraps from 0 to 4095 (R6). -/
theorem tag_toNat_sub_one (p : Tag) :
    (p - 1).toNat = if p.toNat = 0 then 4095 else p.toNat - 1 := by
  have one : (1 : Tag).toNat = 1 := rfl
  have lt : p.toNat < 4096 := p.isLt
  rw [BitVec.toNat_sub, one]
  split <;> omega

/-- P taken back by one takes every position back by one, wrapping alike (R3, R6). -/
theorem pos_sub_one (p t : Tag) :
    pos (p - 1) t = if pos p t = 0 then 4095 else pos p t - 1 := by
  have comm : p - 1 - t = p - t - 1 := sub_right_comm p 1 t
  rw [pos, comm, tag_toNat_sub_one, ← pos]

/-! ## The reverse pulse -/

theorem exec_reversePulse (s : State) : exec .reversePulse s = execReversePulse s := rfl

theorem execReversePulse_of_unsynced {s : State} (run : s.inReset = false) (unsynced : s.ptr.p = none) :
    execReversePulse s = .next s := by
  have same : { s.ptr with p := s.ptr.p.map (· - 1) } = s.ptr := by
    rw [unsynced, Option.map_none, ← unsynced]
  rw [execReversePulse, running_of_running _ run, same, State.setPtr_same]

theorem execReversePulse_of_synced {s : State} {p : Tag} (run : s.inReset = false)
    (synced : s.ptr.p = some p) :
    execReversePulse s = .next (s.setPtr { s.ptr with p := some (p - 1) }) := by
  rw [execReversePulse, running_of_running _ run, synced, Option.map_some]

/-! ## The statements -/

/-- Settles O12: each clause is one about the position of `a` seen from `b`. -/
theorem tagOrderIsHalfTheRange : Obligations.TagOrderIsHalfTheRange := by
  intro a b
  rw [← pos_eq_mod b a]
  exact ⟨tagBefore_iff_pos a b, tagBefore_swap_iff_pos a b, pos_eq_zero_iff b a,
    (tagBefore_neither_iff_pos a b).symm⟩

/-- Settles O16, by whether P is synced. -/
theorem reversePulseTakesTheTagBack : Obligations.ReversePulseTakesTheTagBack := by
  intro s run
  rw [exec_reversePulse]
  exact ⟨execReversePulse_of_unsynced run, fun p synced =>
    ⟨execReversePulse_of_synced run synced, tag_toNat_sub_one p, pos_sub_one p⟩⟩

end Sys2Proof.Machine
end

section
/-! The fields of a bid and the bid they make up (R36 to R39), and its bits on the line (R42). -/

namespace Sys2Proof.Machine

/-! ## The urgency field, a lemma per line of the table of R36 -/

theorem urgency_of_fallback {r : Recipe} (fallback : r.fallback = true) (k : Nat) : urgency r k = 3 :=
  if_pos fallback

theorem urgency_of_last {r : Recipe} {k : Nat} (regular : r.fallback = false) (last : k + 1 = r.n) :
    urgency r k = 0 := by
  simp [urgency, regular, last]

theorem urgency_of_begun {r : Recipe} {k : Nat} (regular : r.fallback = false) (notLast : k + 1 ≠ r.n)
    (begun : 1 ≤ k) : urgency r k = 1 := by
  simp [urgency, regular, notLast, begun]

theorem urgency_of_fresh {r : Recipe} {k : Nat} (regular : r.fallback = false) (notLast : k + 1 ≠ r.n)
    (fresh : k = 0) : urgency r k = 2 := by
  subst fresh
  simp [urgency, regular, notLast]

theorem urgency_le_three (r : Recipe) (k : Nat) : urgency r k ≤ 3 := by
  rw [urgency]
  split_ifs <;> decide

/-! ## The fill field (R37) -/

theorem fill_mul_le (r : Recipe) (k : Nat) : fill r k * r.n ≤ 15 * (r.n - k - 1) :=
  Nat.div_mul_le_self _ _

theorem lt_fill_succ_mul {r : Recipe} {k : Nat} (room : k < r.n) :
    15 * (r.n - k - 1) < (fill r k + 1) * r.n := by
  rw [mul_comm (fill r k + 1)]
  exact Nat.lt_mul_div_succ _ (Nat.zero_lt_of_lt room)

/-- A cradle with room lacks fewer than N stems after the claim, so the quotient stays below 15. -/
theorem fill_le_fourteen {r : Recipe} {k : Nat} (room : k < r.n) : fill r k ≤ 14 := by
  have below : 15 * (r.n - k - 1) < 15 * r.n := by omega
  exact Nat.le_of_lt_succ (Nat.div_lt_of_lt_mul (by rwa [mul_comm r.n]))

theorem fill_of_last {r : Recipe} {k : Nat} (last : k + 1 = r.n) : fill r k = 0 := by
  have missing : r.n - k - 1 = 0 := by omega
  rw [fill, missing, mul_zero, Nat.zero_div]

theorem fill_with_fallback (r : Recipe) (k : Nat) (fallback : Bool) :
    fill { r with fallback := fallback } k = fill r k := rfl

/-! ## The width field (R38) -/

theorem width_le_255 (e : Envelope) : width e ≤ 255 := Nat.min_le_left _ _

theorem width_of_spread_le {e : Envelope} (narrow : e.spread ≤ 511) : width e = e.spread / 2 :=
  Nat.min_eq_right (by omega)

theorem width_of_le_spread {e : Envelope} (wide : 511 ≤ e.spread) : width e = 255 :=
  Nat.min_eq_left (by omega)

theorem Recipe.spread_le_of_fits {r : Recipe} {e : Envelope} (fits : r.fits e = true) (limit : r.s ≠ 255) :
    e.spread ≤ r.s := by
  simpa [Recipe.fits, limit] using fits

theorem width_of_fits {r : Recipe} {e : Envelope} (fits : r.fits e = true) (limit : r.s ≤ 250) :
    width e ≤ 125 := by
  have spread : e.spread ≤ r.s := Recipe.spread_le_of_fits fits (by omega)
  rw [width_of_spread_le (by omega)]
  omega

theorem width_widen_none (l : Nat) : width (widen none l) = 0 := by
  simp [width, widen, Envelope.spread]

theorem widen_of_mem {e : Envelope} {l : Nat} (least : e.least ≤ l) (greatest : l ≤ e.greatest) :
    widen (some e) l = e := by
  simp [widen, least, greatest]

/-! ## The bid (R39) -/

theorem bidOf_mod_64 (r : Recipe) (k : Nat) (e : Envelope) (n : StationNo) : bidOf r k e n % 64 = n.val := by
  have hn : n.val < 64 := n.isLt
  rw [bidOf]
  omega

/-- Each field is below the ratio of its place value to the next, so none carries into another. -/
theorem bidOf_fields {r : Recipe} {k : Nat} (room : k < r.n) (e : Envelope) (n : StationNo) :
    bidOf r k e n / 262144 = urgency r k ∧ bidOf r k e n / 16384 % 16 = fill r k ∧
      bidOf r k e n / 64 % 256 = width e := by
  have hn : n.val < 64 := n.isLt
  have hw := width_le_255 e
  have hf := fill_le_fourteen room
  rw [bidOf]
  omega

/-- The greatest bid has urgency 3, fill 14, width 255 and number 63. -/
theorem bidOf_le {r : Recipe} {k : Nat} (room : k < r.n) (e : Envelope) (n : StationNo) :
    bidOf r k e n ≤ 1032191 := by
  have hn : n.val < 64 := n.isLt
  have hw := width_le_255 e
  have hf := fill_le_fourteen room
  have hu := urgency_le_three r k
  rw [bidOf]
  omega

theorem bidOf_ne_of_number_ne (r r' : Recipe) (k k' : Nat) (e e' : Envelope) {n n' : StationNo}
    (other : n ≠ n') : bidOf r k e n ≠ bidOf r' k' e' n' := by
  intro equal
  have number : n.val = n'.val := by rw [← bidOf_mod_64 r k e n, equal, bidOf_mod_64]
  exact other (Fin.ext number)

/-! ## Two numbers on the line, most significant bit first (R42) -/

theorem numBits_succ (w n : Nat) : numBits (w + 1) n = n.testBit w :: numBits w n := by
  simp [numBits, List.range_succ]

/-- The bits of `a` and `b` agree before position `i`, where `a` is marked (0) and `b` is open (1). -/
def MarkedFirstAt (w a b i : Nat) : Prop :=
  (numBits w a).take i = (numBits w b).take i ∧
    (numBits w a)[i]? = some false ∧ (numBits w b)[i]? = some true

theorem markedFirstAt_zero {w a b : Nat} (marked : a.testBit w = false) (opened : b.testBit w = true) :
    MarkedFirstAt (w + 1) a b 0 := by
  simp [MarkedFirstAt, numBits_succ, marked, opened]

theorem MarkedFirstAt.succ {w a b i : Nat} (first : MarkedFirstAt w a b i)
    (same : a.testBit w = b.testBit w) : MarkedFirstAt (w + 1) a b (i + 1) := by
  simpa [MarkedFirstAt, numBits_succ, same] using first

/-- By induction on the width: the leading bits decide, or they are equal and the rest decides. -/
theorem exists_markedFirstAt_of_mod_lt {w a b : Nat} (lower : a % 2 ^ w < b % 2 ^ w) :
    ∃ i < w, MarkedFirstAt w a b i := by
  induction w with
  | zero => simp [Nat.mod_one] at lower
  | succ w ih =>
    have below : a % 2 ^ w < 2 ^ w := Nat.mod_lt _ (Nat.two_pow_pos w)
    have below' : b % 2 ^ w < 2 ^ w := Nat.mod_lt _ (Nat.two_pow_pos w)
    rw [Nat.mod_pow_succ, Nat.mod_pow_succ, ← Nat.toNat_testBit, ← Nat.toNat_testBit] at lower
    by_cases same : a.testBit w = b.testBit w
    · rw [same] at lower
      obtain ⟨i, inside, first⟩ := ih (Nat.lt_of_add_lt_add_right lower)
      exact ⟨i + 1, Nat.succ_lt_succ inside, first.succ same⟩
    · cases marked : a.testBit w with
      | false =>
        have opened : b.testBit w = true := by simpa [marked] using same
        exact ⟨0, Nat.succ_pos w, markedFirstAt_zero marked opened⟩
      | true =>
        have notOpened : b.testBit w = false := by simpa [marked] using same
        simp only [marked, notOpened, Bool.toNat_true, Bool.toNat_false] at lower
        omega

theorem exists_markedFirstAt_of_lt {w a b : Nat} (lower : a < b) (fits : b < 2 ^ w) :
    ∃ i < w, MarkedFirstAt w a b i :=
  exists_markedFirstAt_of_mod_lt (by rwa [Nat.mod_eq_of_lt (lower.trans fits), Nat.mod_eq_of_lt fits])

/-! ## The statements -/

/-- Settles O31: the four lines of the table, the quotient of the fill, and the three ranges of the spread. -/
theorem bidFields : Obligations.BidFields := by
  intro r k l e fallback
  refine ⟨(urgency_of_fallback · k), urgency_of_last, urgency_of_begun, urgency_of_fresh,
    fun room => ⟨fill_mul_le r k, lt_fill_succ_mul room, fill_le_fourteen room, fill_of_last,
      fill_with_fallback r k fallback⟩,
    ?_, width_of_le_spread, width_of_fits, width_widen_none l, widen_of_mem⟩
  intro narrow
  rw [width_of_spread_le narrow]
  omega

/-- Settles O32: each field is below its place value, and a bid is below 2 to the power 20. -/
theorem bidComposition : Obligations.BidComposition := by
  intro r r' k k' e e' n n' room room'
  have fits : bidOf r' k' e' n' < 2 ^ 20 := Nat.lt_of_le_of_lt (bidOf_le room' e' n') (by decide)
  obtain ⟨urgencyField, fillField, widthField⟩ := bidOf_fields room e n
  exact ⟨rfl, urgencyField, fillField, widthField, bidOf_mod_64 r k e n, bidOf_le room e n,
    bidOf_ne_of_number_ne r r' k k' e e', fun lower => exists_markedFirstAt_of_lt lower fits⟩

end Sys2Proof.Machine
end

section
/-! The stray break (R90): a beam that breaks with no OPEN falling entry for its cradle. -/

namespace Sys2Proof.Machine

/-! ## The record of a raise -/

/-- A discarded notice raises NOTICE-LOST behind a record that is current already (R122, R150). -/
theorem State.discardNotice_current {s : State} {r : Record} (current : s.alc.current = some r) :
    s.discardNotice.alc.current = some r := by
  rw [State.discardNotice_of_current current]
  split
  · simpa using current
  · exact current

/-- An ALERT notice for the current record leaves that record current, whatever the queue holds. -/
theorem State.queueAlert_current {s : State} {r : Record} (current : s.alc.current = some r) :
    s.queueAlert.alc.current = some r := by
  rw [State.queueAlert]
  obtain ⟨-, -, same⟩ | ⟨-, -, marked⟩ | ⟨-, -, joined⟩ | ⟨-, -, full⟩ :=
    s.alertNotice_cases State.discardNotice
  · rwa [same]
  · rwa [marked]
  · rwa [joined]
  · rw [full]
    exact State.discardNotice_current current

/-- A raised level-1 cause stands with the parameter and the stamp of its raise: as the current record, or in the
pending set behind the one that is current (R116, R118). -/
theorem State.mem_standing_raise1 (s : State) (c : Cause) (param : BitVec 12) :
    ⟨c, param, s.stamp⟩ ∈ (s.raise1 c param).standing := by
  cases current : s.alc.current with
  | none =>
    have becomes : (s.raise1 c param).alc.current = some ⟨c, param, s.stamp⟩ := by
      rw [State.raise1_of_none c param current]
      exact State.queueAlert_current rfl
    simp [State.standing, becomes]
  | some r =>
    simp [State.raise1_of_current c param current, State.standing, mem_putRecord_self]

/-! ## The end of an event that leaves the tests as they were -/

theorem State.settle_of_steady {s : State} (steady : s.crm.blocked = s.blockedNow)
    (building : s.idleNow = false) : s.settle = s := by
  have noIdle : s.reviewIdle = s := by simp [State.reviewIdle, building]
  rw [State.settle, noIdle, State.reviewBlocked, if_pos steady.symm]

/-! ## The break of a beam -/

theorem State.oldestOpen_eq_none_iff (s : State) (c : Cradle) :
    s.oldestOpen c = none ↔ ∀ f ∈ s.drc.falling, f.claim.cradle ≠ c ∨ f.window = .waiting := by
  have notOpened : ∀ f : Falling, f.window ≠ .opened ↔ f.window = .waiting := by
    intro f
    cases f.window <;> decide
  simp [State.oldestOpen, List.find?_eq_none, ← notOpened, imp_iff_not_or]

theorem State.judgeBreak_of_stray {s : State} {c : Cradle} (stray : s.oldestOpen c = none) :
    s.judgeBreak c = s.raise1 .stray (cradleParam c) := by
  rw [State.judgeBreak, stray, cradleParam]

/-- The station once a beam has broken, with its timer running (R88), before the break is judged. -/
def State.beamBroken (s : State) (c : Cradle) : State :=
  (s.told (.beam c) true).setBeam c { s.beam c with blocked := true, timer := some s.now }

/-- A break at a clear beam, with what follows from it (R88 to R90). -/
theorem execBeamBlocked_of_clear {s : State} {c : Cradle} (run : s.inReset = false)
    (clear : (s.beam c).blocked = false) :
    execBeamBlocked c s = .next ((s.beamBroken c).judgeBreak c).settle := by
  have beam : (s.told (.beam c) true).beam c = s.beam c := State.beam_congr c rfl
  have now : (s.told (.beam c) true).now = s.now := rfl
  have still : (s.told (.beam c) true).inReset = false := run
  rw [execBeamBlocked, running_of_running _ still, beam, now, clear]
  rfl

/-- A broken beam writes its own record and its qualifier, and no other block. -/
theorem State.beamBroken_frame (s : State) (c : Cradle) :
    (s.beamBroken c).ptr = s.ptr ∧ (s.beamBroken c).rct = s.rct ∧ (s.beamBroken c).clu = s.clu ∧
      (s.beamBroken c).rol = s.rol ∧ (s.beamBroken c).crm = s.crm ∧ (s.beamBroken c).mdc = s.mdc ∧
      (s.beamBroken c).drc =
        (s.setBeam c { s.beam c with blocked := true, timer := some s.now }).drc := by
  cases c <;> simp [State.beamBroken, State.setBeam]

theorem State.beamBroken_oldestOpen (s : State) (c : Cradle) :
    (s.beamBroken c).oldestOpen c = s.oldestOpen c := by
  have falling : (s.beamBroken c).drc.falling = s.drc.falling := by simp [State.beamBroken]
  rw [State.oldestOpen, falling, State.oldestOpen]

/-- A stray break ends with the raise of STRAY: the tests for IDLE and BLOCKED read nothing it has changed. -/
theorem execBeamBlocked_of_stray {s : State} {c : Cradle} (run : s.inReset = false)
    (clear : (s.beam c).blocked = false) (steady : s.crm.blocked = s.blockedNow)
    (building : s.idleNow = false) (stray : s.oldestOpen c = none) :
    execBeamBlocked c s = .next ((s.beamBroken c).raise1 .stray (cradleParam c)) := by
  have judged := State.judgeBreak_of_stray ((s.beamBroken_oldestOpen c).trans stray)
  obtain ⟨-, rct, -, -, crm, mdc, -⟩ := s.beamBroken_frame c
  rw [execBeamBlocked_of_clear run clear, judged, State.settle_of_steady]
  · rw [State.blockedNow_congr (s := s) (by simp [mdc]) (by simp [crm])]
    simpa [crm] using steady
  · rw [State.idleNow_congr (s := s) (by simp [mdc]) (by simp [crm]) (by simp [rct]), building]

/-! ## The statement -/

theorem exec_beamBlocked (s : State) (c : Cradle) : exec (.beamBlocked c) s = execBeamBlocked c s := rfl

/-- Settles O50: STRAY stands by its raise, and beyond the broken beam a raise writes only alert records and
notices. -/
theorem strayBreakChangesNothingElse : Obligations.StrayBreakChangesNothingElse := by
  intro s c run clear steady building noneOpen
  have stray : s.oldestOpen c = none := (s.oldestOpen_eq_none_iff c).mpr noneOpen
  have stands := (s.beamBroken c).mem_standing_raise1 .stray (cradleParam c)
  obtain ⟨ptr, rct, clu, rol, crm, mdc, drc⟩ := s.beamBroken_frame c
  rw [State.stamp_congr ptr] at stands
  refine ⟨_, (exec_beamBlocked s c).trans (execBeamBlocked_of_stray run clear steady building stray),
    stands, ?_⟩
  simp [ptr, rct, clu, rol, crm, mdc, drc]

end Sys2Proof.Machine
end

section
/-! CANCEL and the level-1 pending set (R129): the event codes leave it and the condition codes stay. -/

namespace Sys2Proof.Machine

/-! ## Condition causes and the level -/

/-- The condition causes of R117, by name. -/
theorem Cause.isCondition_iff (c : Cause) :
    c.isCondition = true ↔ c = .staleCradle ∨ c = .blocked ∨ c = .gaugeSilent := by
  cases c <;> decide

/-- The level reads nothing of the alert controller but the current record (R115). -/
theorem State.level_setAlc_of_current {s : State} {x : AlertController} (same : x.current = s.alc.current) :
    (s.setAlc x).level = s.level := by
  rw [State.level, State.setAlc_alc, same, State.level]

/-! ## The pending set after CANCEL -/

/-- The records of the level-1 pending set that CANCEL keeps. -/
def State.pendingConditions (s : State) : List Record := s.alc.pend1.filter (·.cause.isCondition)

theorem State.pendingConditions_sublist (s : State) : s.pendingConditions.Sublist s.alc.pend1 :=
  List.filter_sublist

theorem State.mem_pendingConditions_iff {s : State} {r : Record} (pending : r ∈ s.alc.pend1) :
    r ∈ s.pendingConditions ↔ r.cause = .staleCradle ∨ r.cause = .blocked ∨ r.cause = .gaugeSilent := by
  rw [State.pendingConditions, List.mem_filter, and_iff_right pending, Cause.isCondition_iff]

/-! ## The command -/

theorem exec_cancel (s : State) : exec .cancel s = execCancel s := rfl

theorem execCancel_of_free {s : State} (run : s.inReset = false)
    (free : (s.qualifier .cancel).held = false) :
    execCancel s = .next (s.setAlc { s.alc with pend1 := s.pendingConditions }) :=
  request_of_free .cancel _ run free

/-! ## The statement -/

/-- Settles O59: CANCEL filters the level-1 pending set by its condition causes, and the level reads only the
current record, which it does not write. -/
theorem cancelRemovesPendingEvents : Obligations.CancelRemovesPendingEvents := by
  intro s run free
  refine ⟨s.setAlc { s.alc with pend1 := s.pendingConditions },
    (exec_cancel s).trans (execCancel_of_free run free), ?frame, s.pendingConditions_sublist,
    State.level_setAlc_of_current rfl, fun r pending => State.mem_pendingConditions_iff pending⟩
  case frame => rw [State.setAlc_alc]

end Sys2Proof.Machine
end

section
/-! The alert records under the notice and level-1 operations (R115 to R120, R149 to R151): what each writes at the
Alert Controller, and which records stand before and after it. -/

namespace Sys2Proof.Machine

/-! ## A record taken in, a current record that retires, a cause that ends -/

/-- A level-1 record taken in: current where none is, pending behind one that is (R118, R122). -/
def AlertController.attend (x : AlertController) (r : Record) : AlertController :=
  match x.current with
  | none => { x with current := some r }
  | some _ => { x with pend1 := putRecord r x.pend1 }

/-- The current record retires, and the lowest pending code follows it (R119). -/
def AlertController.retire (x : AlertController) : AlertController :=
  { x with current := x.pend1.head?, pend1 := x.pend1.tail }

/-- A cause leaves the place it stands in (R117, R119, R120). -/
def AlertController.drop (x : AlertController) (c : Cause) : AlertController :=
  if x.current.any (fun r => r.cause == c) then x.retire
  else { x with
    saved := x.saved.filter fun r => r.cause != c
    pend1 := x.pend1.filter fun r => r.cause != c }

/-- The records after a change that may have lost a notice to a full queue (R150). -/
def AlertController.MayLose (x y : AlertController) : Prop :=
  y = x ∨ ∃ stamp, y = x.attend ⟨.noticeLost, 0, stamp⟩

/-- The records that stand, wherever they stand. -/
def AlertController.standing (x : AlertController) : List Record :=
  x.current.toList ++ x.saved.toList ++ x.pend1 ++ x.pend2

/-- In how many places a cause stands. -/
def AlertController.places (x : AlertController) (c : Cause) : Nat :=
  (x.standing.filter (·.cause = c)).length

theorem State.standing_eq (s : State) : s.standing = s.alc.standing := rfl

theorem State.places_eq (s : State) (c : Cause) : s.places c = s.alc.places c := rfl

theorem AlertController.attend_of_none {x : AlertController} (h : x.current = none) (r : Record) :
    x.attend r = { x with current := some r } := by
  simp [AlertController.attend, h]

theorem AlertController.attend_of_some {x : AlertController} {q : Record} (h : x.current = some q)
    (r : Record) : x.attend r = { x with pend1 := putRecord r x.pend1 } := by
  simp [AlertController.attend, h]

/-- A record taken in leaves the saved record, the level-2 set, the saved mode and the REFUSE pulse. -/
@[simp] theorem AlertController.attend_frame (x : AlertController) (r : Record) :
    (x.attend r).saved = x.saved ∧ (x.attend r).pend2 = x.pend2 ∧
      (x.attend r).savedMode = x.savedMode ∧ (x.attend r).refuse = x.refuse := by
  unfold AlertController.attend
  split <;> exact ⟨rfl, rfl, rfl, rfl⟩

@[simp] theorem AlertController.attend_current (x : AlertController) (r : Record) :
    (x.attend r).current = some (x.current.getD r) := by
  cases h : x.current with
  | none => simp [AlertController.attend_of_none h]
  | some q => simp [AlertController.attend_of_some h, h]

/-- A cause that ends leaves the level-2 set, the saved mode and the REFUSE pulse. -/
@[simp] theorem AlertController.drop_frame (x : AlertController) (c : Cause) :
    (x.drop c).pend2 = x.pend2 ∧ (x.drop c).savedMode = x.savedMode ∧ (x.drop c).refuse = x.refuse := by
  unfold AlertController.drop AlertController.retire
  split <;> exact ⟨rfl, rfl, rfl⟩

/-- With another cause current, the ended cause leaves the saved record and the pending set (R120). -/
theorem AlertController.drop_of_other {x : AlertController} {c : Cause}
    (h : ∀ r ∈ x.current, r.cause ≠ c) :
    x.drop c = { x with
      saved := x.saved.filter fun r => r.cause != c
      pend1 := x.pend1.filter fun r => r.cause != c } := by
  refine if_neg ?_
  cases k : x.current <;> simp_all

theorem AlertController.drop_of_current {x : AlertController} {c : Cause} {r : Record}
    (h : x.current = some r) (k : r.cause = c) : x.drop c = x.retire := by
  simp [AlertController.drop, h, k]

theorem AlertController.MayLose.refl (x : AlertController) : x.MayLose x := .inl rfl

/-- A lost notice leaves the saved record, the level-2 set, the saved mode and the REFUSE pulse. -/
theorem AlertController.MayLose.frame {x y : AlertController} (h : x.MayLose y) :
    y.saved = x.saved ∧ y.pend2 = x.pend2 ∧ y.savedMode = x.savedMode ∧ y.refuse = x.refuse := by
  obtain rfl | ⟨stamp, rfl⟩ := h <;> simp

theorem AlertController.MayLose.current {x y : AlertController} {r : Record} (h : x.MayLose y)
    (k : x.current = some r) : y.current = some r := by
  obtain rfl | ⟨stamp, rfl⟩ := h <;> simp [k]

/-! ## Which records stand -/

theorem mem_putRecord_iff_of_ne {r y : Record} {l : List Record} (h : y.cause ≠ r.cause) :
    y ∈ putRecord r l ↔ y ∈ l :=
  ⟨fun m => (mem_putRecord m).resolve_left (fun e => h (by rw [e])), (mem_putRecord_of_mem · h)⟩

theorem AlertController.mem_standing {x : AlertController} {y : Record} :
    y ∈ x.standing ↔ x.current = some y ∨ x.saved = some y ∨ y ∈ x.pend1 ∨ y ∈ x.pend2 := by
  simp [AlertController.standing]

theorem AlertController.mem_standing_attend_self (x : AlertController) (r : Record) :
    r ∈ (x.attend r).standing := by
  rw [AlertController.mem_standing]
  cases h : x.current with
  | none => simp [AlertController.attend_of_none h]
  | some q => simp [AlertController.attend_of_some h, mem_putRecord_self]

theorem AlertController.mem_standing_attend_of_ne (x : AlertController) {r y : Record}
    (h : y.cause ≠ r.cause) : y ∈ (x.attend r).standing ↔ y ∈ x.standing := by
  have ne : r ≠ y := fun e => h (by rw [e])
  simp only [AlertController.mem_standing]
  cases k : x.current with
  | none => simp [AlertController.attend_of_none k, ne]
  | some q => simp [AlertController.attend_of_some k, k, mem_putRecord_iff_of_ne h]

theorem AlertController.mem_standing_drop_of_ne {x : AlertController} {c : Cause} {y : Record}
    (h : y.cause ≠ c) : y ∈ (x.drop c).standing ↔ y ∈ x.standing := by
  by_cases k : ∃ r, x.current = some r ∧ r.cause = c
  · obtain ⟨r, current, cause⟩ := k
    have ne : r ≠ y := fun e => h (by rw [← e, cause])
    rw [AlertController.drop_of_current current cause, AlertController.mem_standing,
      AlertController.mem_standing, current]
    cases pend : x.pend1 with
    | nil => simp [AlertController.retire, pend, ne]
    | cons z zs => simp [AlertController.retire, pend, eq_comm]; tauto
  · rw [AlertController.drop_of_other (by simpa using k), AlertController.mem_standing,
      AlertController.mem_standing]
    simp [Option.filter_eq_some_iff, h]

theorem AlertController.MayLose.mem_standing {x y : AlertController} {r : Record} (h : x.MayLose y)
    (k : r.cause ≠ .noticeLost) : r ∈ y.standing ↔ r ∈ x.standing := by
  obtain rfl | ⟨stamp, rfl⟩ := h
  · rfl
  · exact AlertController.mem_standing_attend_of_ne x k

/-! ## The level -/

/-- The level is STOP while a level-2 record is current (R115). -/
theorem State.level_eq_stop_iff (s : State) :
    s.level = .stop ↔ ∃ r, s.alc.current = some r ∧ r.cause.isStop = true := by
  unfold State.level
  split
  · simp [*]
  · split <;> simp_all

/-- A lost notice raises no more than ATTENTION (R115, R150). -/
theorem AlertController.MayLose.level {s t : State} (h : s.alc.MayLose t.alc) :
    t.level = .stop ↔ s.level = .stop := by
  obtain same | ⟨stamp, same⟩ := h
  · rw [State.level_congr same]
  · simp only [State.level_eq_stop_iff, same]
    cases k : s.alc.current with
    | none => simp [k, Cause.isStop, Cause.code]
    | some r => simp [k]

/-! ## What the notice operations write at the Alert Controller -/

theorem State.attention_alc_of_keeps (s : State) (c : Cause) (param : BitVec 12) (full : State → State)
    (h : ∀ t, (full t).alc = t.alc) : (s.attention c param full).alc = s.alc.attend ⟨c, param, s.stamp⟩ := by
  have notice : ∀ t : State, (t.alertNotice full).alc = t.alc := by
    intro t
    obtain ⟨-, -, e⟩ | ⟨-, -, e⟩ | ⟨-, -, e⟩ | ⟨-, -, e⟩ := t.alertNotice_cases full <;> rw [e]
    · rfl
    · rfl
    · exact h t
  unfold State.attention
  cases k : s.alc.current <;> simp [notice, AlertController.attend, k]

/-- A discarded notice raises NOTICE-LOST where the flag was clear (R150). -/
theorem State.discardNotice_alc (s : State) :
    s.discardNotice.alc =
      if s.lbi.lost then s.alc else s.alc.attend ⟨.noticeLost, 0, s.stamp⟩ := by
  unfold State.discardNotice
  split
  · simp
  · rw [State.attention_alc_of_keeps _ _ _ _ (fun t => by simp), State.stamp_congr (s := s) (by simp)]
    simp

theorem State.discardNotice_mayLose (s : State) : s.alc.MayLose s.discardNotice.alc := by
  rw [State.discardNotice_alc]
  split
  · exact .inl rfl
  · exact .inr ⟨_, rfl⟩

theorem State.queueAlert_mayLose (s : State) : s.alc.MayLose s.queueAlert.alc := by
  unfold State.queueAlert
  obtain ⟨-, -, e⟩ | ⟨-, -, e⟩ | ⟨-, -, e⟩ | ⟨-, -, e⟩ := s.alertNotice_cases State.discardNotice <;>
    rw [e]
  · exact .refl _
  · exact .refl _
  · exact .refl _
  · exact s.discardNotice_mayLose

theorem State.joinNotice_mayLose (s : State) (n : Notice) : s.alc.MayLose (s.joinNotice n).alc := by
  unfold State.joinNotice
  split
  · exact .refl _
  · exact s.discardNotice_mayLose

theorem State.raise1_mayLose (s : State) (c : Cause) (param : BitVec 12) :
    (s.alc.attend ⟨c, param, s.stamp⟩).MayLose (s.raise1 c param).alc := by
  cases h : s.alc.current with
  | none =>
    rw [State.raise1_of_none c param h, AlertController.attend_of_none h]
    exact State.queueAlert_mayLose _
  | some r =>
    rw [State.raise1_of_current c param h, AlertController.attend_of_some h]
    exact .refl _

theorem State.retire1_mayLose (s : State) : s.alc.retire.MayLose s.retire1.alc :=
  State.queueAlert_mayLose _

theorem State.endCondition_mayLose (s : State) (c : Cause) :
    (s.alc.drop c).MayLose (s.endCondition c).alc := by
  unfold State.endCondition AlertController.drop
  split
  · exact s.retire1_mayLose
  · exact .refl _

/-- A level-1 raise leaves the level STOP or away from STOP (R115, R118). -/
theorem State.raise1_level {s : State} {c : Cause} (param : BitVec 12) (h : c.isStop = false) :
    (s.raise1 c param).level = .stop ↔ s.level = .stop := by
  have attended : (s.setAlc (s.alc.attend ⟨c, param, s.stamp⟩)).level = .stop ↔ s.level = .stop := by
    simp only [State.level_eq_stop_iff, State.setAlc_alc, AlertController.attend_current]
    cases s.alc.current <;> simp [h]
  exact (AlertController.MayLose.level (s := s.setAlc _) (s.raise1_mayLose c param)).trans attended

/-! ## What the level-1 operations leave at the Alert Controller -/

@[simp] theorem State.joinNotice_alc_frame (s : State) (n : Notice) :
    (s.joinNotice n).alc.saved = s.alc.saved ∧ (s.joinNotice n).alc.pend2 = s.alc.pend2 ∧
      (s.joinNotice n).alc.savedMode = s.alc.savedMode ∧ (s.joinNotice n).alc.refuse = s.alc.refuse :=
  (s.joinNotice_mayLose n).frame

@[simp] theorem State.queueAlert_alc_frame (s : State) :
    s.queueAlert.alc.saved = s.alc.saved ∧ s.queueAlert.alc.pend2 = s.alc.pend2 ∧
      s.queueAlert.alc.savedMode = s.alc.savedMode ∧ s.queueAlert.alc.refuse = s.alc.refuse :=
  s.queueAlert_mayLose.frame

@[simp] theorem State.raise1_alc_frame (s : State) (c : Cause) (param : BitVec 12) :
    (s.raise1 c param).alc.saved = s.alc.saved ∧ (s.raise1 c param).alc.pend2 = s.alc.pend2 ∧
      (s.raise1 c param).alc.savedMode = s.alc.savedMode ∧
      (s.raise1 c param).alc.refuse = s.alc.refuse := by
  simpa using (s.raise1_mayLose c param).frame

@[simp] theorem State.endCondition_alc_frame (s : State) (c : Cause) :
    (s.endCondition c).alc.pend2 = s.alc.pend2 ∧ (s.endCondition c).alc.savedMode = s.alc.savedMode ∧
      (s.endCondition c).alc.refuse = s.alc.refuse := by
  simpa using (s.endCondition_mayLose c).frame.2

/-- BLOCKED worked out again leaves the level-2 set, the saved mode and the REFUSE pulse (R78). -/
@[simp] theorem State.reviewBlocked_alc_frame (s : State) :
    s.reviewBlocked.alc.pend2 = s.alc.pend2 ∧ s.reviewBlocked.alc.savedMode = s.alc.savedMode ∧
      s.reviewBlocked.alc.refuse = s.alc.refuse := by
  unfold State.reviewBlocked
  (repeat' split) <;> simp

@[simp] theorem State.settle_alc_frame (s : State) :
    s.settle.alc.pend2 = s.alc.pend2 ∧ s.settle.alc.savedMode = s.alc.savedMode ∧
      s.settle.alc.refuse = s.alc.refuse := by
  simp [State.settle]

/-! ## Which records the level-1 operations leave standing -/

theorem State.mem_standing_joinNotice {s : State} {r : Record} (n : Notice) (h : r.cause ≠ .noticeLost) :
    r ∈ (s.joinNotice n).standing ↔ r ∈ s.standing :=
  (s.joinNotice_mayLose n).mem_standing h

theorem State.mem_standing_queueAlert {s : State} {r : Record} (h : r.cause ≠ .noticeLost) :
    r ∈ s.queueAlert.standing ↔ r ∈ s.standing :=
  s.queueAlert_mayLose.mem_standing h

theorem State.mem_standing_raise1_of_ne {s : State} {r : Record} {c : Cause} (param : BitVec 12)
    (h : r.cause ≠ c) (k : r.cause ≠ .noticeLost) :
    r ∈ (s.raise1 c param).standing ↔ r ∈ s.standing :=
  ((s.raise1_mayLose c param).mem_standing k).trans (AlertController.mem_standing_attend_of_ne _ h)

theorem State.mem_standing_endCondition {s : State} {r : Record} {c : Cause} (h : r.cause ≠ c)
    (k : r.cause ≠ .noticeLost) : r ∈ (s.endCondition c).standing ↔ r ∈ s.standing :=
  ((s.endCondition_mayLose c).mem_standing k).trans (AlertController.mem_standing_drop_of_ne h)

theorem State.mem_standing_reviewBlocked {s : State} {r : Record} (h : r.cause ≠ .blocked)
    (k : r.cause ≠ .noticeLost) : r ∈ s.reviewBlocked.standing ↔ r ∈ s.standing := by
  have hold : ∀ (t : State) (v : Bool), (t.setHoldBlocked v).standing = t.standing :=
    fun t v => State.standing_congr (by simp)
  unfold State.reviewBlocked
  split
  · rfl
  · split
    · rw [hold, State.mem_standing_raise1_of_ne _ h k, State.standing_setCrm]
    · rw [hold, State.mem_standing_endCondition h k, State.standing_setCrm]

theorem State.mem_standing_settle {s : State} {r : Record} (h : r.cause ≠ .blocked)
    (k : r.cause ≠ .noticeLost) : r ∈ s.settle.standing ↔ r ∈ s.standing := by
  rw [State.settle, State.mem_standing_reviewBlocked h k, State.standing_congr (s := s) (by simp)]

end Sys2Proof.Machine
end

section
/-! The bus interface under the notice operations (R149 to R151), and what the end of a bidding mode does to the
round, the Re-offer List and the bus (R45, R162, R163), down to the end of an event. -/

namespace Sys2Proof.Machine

/-! ## The notice side of the bus interface -/

/-- Of the bus interface only the notices and their flags may differ, and notices only join at the tail. -/
def LineBus.NoticesGrow (l m : LineBus) : Prop :=
  m = { l with notices := m.notices, lost := m.lost, lostDuring := m.lostDuring, resend := m.resend } ∧
    l.notices <+: m.notices

theorem LineBus.NoticesGrow.refl (l : LineBus) : l.NoticesGrow l := ⟨rfl, List.prefix_refl _⟩

theorem LineBus.NoticesGrow.trans {l m n : LineBus} (h : l.NoticesGrow m) (k : m.NoticesGrow n) :
    l.NoticesGrow n := by
  obtain ⟨rest, grow⟩ := h
  obtain ⟨rest', grow'⟩ := k
  refine ⟨?_, grow.trans grow'⟩
  rw [rest', rest]

/-- Everything of the bus interface but the notices and their flags is as it was. -/
theorem LineBus.NoticesGrow.frame {l m : LineBus} (h : l.NoticesGrow m) :
    m.receiver = l.receiver ∧ m.openRun = l.openRun ∧ m.tx = l.tx ∧ m.mismatches = l.mismatches ∧
      m.announcePending = l.announcePending ∧ m.claimReserve = l.claimReserve ∧
      m.reclaimReserve = l.reclaimReserve := by
  rw [h.1]
  simp

/-- A notice that waits keeps its place in the queue. -/
theorem LineBus.NoticesGrow.getElem? {l m : LineBus} {i : Nat} {n : Notice} (h : l.NoticesGrow m)
    (k : l.notices[i]? = some n) : m.notices[i]? = some n := by
  obtain ⟨more, e⟩ := h.2
  rw [← e, List.getElem?_append_left (List.getElem?_eq_some_iff.mp k).1, k]

theorem LineBus.NoticesGrow.mem {l m : LineBus} {n : Notice} (h : l.NoticesGrow m)
    (k : n ∈ l.notices) : n ∈ m.notices := h.2.subset k

theorem State.putLost_grows (s : State) : s.lbi.NoticesGrow s.putLost.lbi :=
  ⟨rfl, List.prefix_refl _⟩

theorem State.alertNotice_grows (s : State) (full : State → State)
    (h : ∀ t : State, t.lbi.NoticesGrow (full t).lbi) : s.lbi.NoticesGrow (s.alertNotice full).lbi := by
  obtain ⟨-, -, e⟩ | ⟨-, -, e⟩ | ⟨-, -, e⟩ | ⟨-, -, e⟩ := s.alertNotice_cases full <;> rw [e]
  · exact .refl _
  · exact ⟨rfl, List.prefix_refl _⟩
  · exact ⟨rfl, List.prefix_append _ _⟩
  · exact h s

theorem State.attention_grows (s : State) (c : Cause) (param : BitVec 12) (full : State → State)
    (h : ∀ t : State, t.lbi.NoticesGrow (full t).lbi) : s.lbi.NoticesGrow (s.attention c param full).lbi := by
  unfold State.attention
  dsimp only
  split
  · exact State.alertNotice_grows (s.setAlc _) full h
  · exact .refl _

theorem State.discardNotice_grows (s : State) : s.lbi.NoticesGrow s.discardNotice.lbi := by
  unfold State.discardNotice
  split
  · exact s.putLost_grows
  · exact s.putLost_grows.trans (State.attention_grows _ _ _ _ State.putLost_grows)

theorem State.queueAlert_grows (s : State) : s.lbi.NoticesGrow s.queueAlert.lbi :=
  s.alertNotice_grows _ State.discardNotice_grows

theorem State.joinNotice_grows (s : State) (n : Notice) : s.lbi.NoticesGrow (s.joinNotice n).lbi := by
  unfold State.joinNotice
  split
  · exact ⟨rfl, List.prefix_append _ _⟩
  · exact s.discardNotice_grows

theorem State.raise1_grows (s : State) (c : Cause) (param : BitVec 12) :
    s.lbi.NoticesGrow (s.raise1 c param).lbi := s.attention_grows c param _ State.discardNotice_grows

theorem State.endCondition_grows (s : State) (c : Cause) :
    s.lbi.NoticesGrow (s.endCondition c).lbi := by
  unfold State.endCondition
  split
  · exact State.queueAlert_grows (s.setAlc _)
  · exact .refl _

theorem State.reviewBlocked_grows (s : State) : s.lbi.NoticesGrow s.reviewBlocked.lbi := by
  unfold State.reviewBlocked
  split
  · exact .refl _
  · split
    · simpa using State.raise1_grows (s.setCrm _) .blocked 0
    · simpa using State.endCondition_grows (s.setCrm _) .blocked

/-- An ALERT waits once one has been queued with room for it (R133, R149). -/
theorem State.queueAlert_mem {s : State} (h : s.lbi.notices.length < 8) :
    .alert ∈ s.queueAlert.lbi.notices := by
  rw [State.queueAlert_of_room h]
  (repeat' split) <;> simp_all

/-! ## The Re-offer List reads P, the policy and itself -/

theorem State.reoffer_rol_congr {s t : State} (st : Stem) (p : t.ptr.p = s.ptr.p)
    (profile : t.mdc.profile = s.mdc.profile) (rol : t.rol = s.rol) :
    (t.reoffer st).rol = (s.reoffer st).rol := by
  have policy : t.policy (·.reoffer) = s.policy (·.reoffer) := by simp [State.policy, profile]
  have expired : t.expired st.tag = s.expired st.tag := by
    simp [State.expired, State.posTest, State.posOf, p, profile]
  unfold State.reoffer
  rw [policy, expired, State.hasReoffer_congr _ rol, rol]
  split
  · exact rol
  · rfl

theorem State.reofferAll_rol_congr {s t : State} (l : List Stem) (p : t.ptr.p = s.ptr.p)
    (profile : t.mdc.profile = s.mdc.profile) (rol : t.rol = s.rol) :
    (t.reofferAll l).rol = (s.reofferAll l).rol := by
  induction l generalizing s t with
  | nil => exact rol
  | cons st l ih =>
    exact ih (by simpa using p) (by simpa using profile) (State.reoffer_rol_congr st p profile rol)

theorem State.reofferAll_append (s : State) (l m : List Stem) :
    s.reofferAll (l ++ m) = (s.reofferAll l).reofferAll m := by
  induction l generalizing s with
  | nil => rfl
  | cons st l ih => exact ih _

@[simp] theorem State.wonStems_congr {s t : State} (clu : t.clu = s.clu) : t.wonStems = s.wonStems := by
  simp [State.wonStems, clu]

/-! ## The end of a bidding mode -/

/-- The Claim Unit after a change of mode away from ACTIVE and DRAINING (R45). -/
def State.roundWithoutMode (s : State) : ClaimUnit :=
  match s.clu.round with
  | .idle | .lost => s.clu
  | .bidding => if s.drivingClaim then .atRest else { s.clu with round := .lost, gaveUp := true }
  | .won => .atRest

theorem State.modeEndsRound_clu (s : State) : s.modeEndsRound.clu = s.roundWithoutMode := by
  unfold State.modeEndsRound State.roundWithoutMode
  cases h : s.clu.round with
  | idle => rfl
  | lost => rfl
  | won => simp
  | bidding =>
    cases k : s.drivingClaim
    · simp [State.giveUpStart_clu, h, k]
    · simp

/-- The stem of a won round goes to the Re-offer List, and no other (R45, R49). -/
theorem State.modeEndsRound_rol (s : State) : s.modeEndsRound.rol = (s.reofferAll s.wonStems).rol := by
  unfold State.modeEndsRound State.wonStems
  cases h : s.clu.round with
  | idle => simp [State.reofferAll]
  | lost => simp [State.reofferAll]
  | won =>
    cases k : s.clu.chosen with
    | none => simp [State.forfeitChosen, k, State.reofferAll]
    | some c =>
      simp only [State.forfeitChosen, State.stopClaimFrame_frame, k, State.roundIdle_frame, if_true]
      exact State.reoffer_rol_congr _ (by simp) (by simp) (by simp)
  | bidding => cases k : s.drivingClaim <;> simp [State.reofferAll]

/-- A started frame stops, and nothing else changes at the bus interface (R45). -/
theorem State.modeEndsRound_lbi (s : State) :
    s.modeEndsRound.lbi = { s.lbi with
      tx := if s.drivingClaim = true ∧ (s.clu.round = .bidding ∨ s.clu.round = .won) then none
        else s.lbi.tx } := by
  unfold State.modeEndsRound
  cases h : s.clu.round with
  | idle => simp
  | lost => simp
  | won =>
    simp [State.stopClaimFrame_lbi]
  | bidding => cases k : s.drivingClaim <;> simp [State.stopClaimFrame_lbi, k]

theorem State.changeMode_of_ends {m : Mode} (s : State) (h : m.bids = false) :
    (s.changeMode m).clu = s.roundWithoutMode ∧
      (s.changeMode m).rol = (s.reofferAll s.wonStems).rol ∧
      (s.changeMode m).lbi = { s.lbi with
        tx := if s.drivingClaim = true ∧ (s.clu.round = .bidding ∨ s.clu.round = .won) then none
          else s.lbi.tx } := by
  have driving : (s.putMode m).drivingClaim = s.drivingClaim := State.drivingClaim_congr (by simp)
  have won : (s.putMode m).wonStems = s.wonStems := State.wonStems_congr (by simp)
  have eq : s.changeMode m = (s.putMode m).modeEndsRound := by simp [State.changeMode, h]
  rw [eq, State.modeEndsRound_clu, State.modeEndsRound_rol, State.modeEndsRound_lbi, driving, won]
  refine ⟨by simp [State.roundWithoutMode, driving], ?_, by simp⟩
  exact State.reofferAll_rol_congr _ (by simp) (by simp) (by simp)

/-! ## The test for IDLE and the end of an event -/

theorem State.reviewIdle_of_not {s : State} (h : s.idleNow = false) : s.reviewIdle = s := by
  simp [State.reviewIdle, h]

theorem State.reviewIdle_of_idleNow {s : State} (h : s.idleNow = true) :
    s.reviewIdle = s.changeMode .idle := if_pos h

/-- BLOCKED worked out again reads and writes nothing of the round, the list and the mode. -/
theorem State.settle_clu (s : State) :
    s.settle.clu = if s.idleNow then s.roundWithoutMode else s.clu := by
  cases h : s.idleNow with
  | false => simp [State.settle, State.reviewIdle_of_not h]
  | true =>
    have ends := s.changeMode_of_ends (m := .idle) rfl
    simp [State.settle, State.reviewIdle_of_idleNow h, ends]

theorem State.settle_rol (s : State) :
    s.settle.rol = if s.idleNow then (s.reofferAll s.wonStems).rol else s.rol := by
  cases h : s.idleNow with
  | false => simp [State.settle, State.reviewIdle_of_not h]
  | true =>
    have ends := s.changeMode_of_ends (m := .idle) rfl
    simp [State.settle, State.reviewIdle_of_idleNow h, ends]

theorem State.settle_mdc (s : State) :
    s.settle.mdc = { s.mdc with mode := if s.idleNow = true then .idle else s.mdc.mode } := by
  simp [State.settle, State.reviewIdle_mdc]

/-- The test for IDLE fails in a mode that is neither ACTIVE nor DRAINING (R162, R163). -/
theorem State.mode_of_idleNow {s : State} (h : s.idleNow = true) :
    s.mdc.mode = .active ∨ s.mdc.mode = .draining := by
  simp only [State.idleNow, Bool.and_eq_true, Bool.or_eq_true, beq_iff_eq] at h
  tauto

theorem State.mode_ne_idle_of_idleNow {s : State} (h : s.idleNow = true) : s.mdc.mode ≠ .idle := by
  rcases State.mode_of_idleNow h with h | h <;> simp [h]

/-- The test for IDLE, spelt out (R162, R163). -/
theorem State.idleNow_iff (s : State) :
    s.idleNow = true ↔ s.someBuilding = false ∧
      (s.mdc.mode = .active ∧ allExhausted s.rct = true ∨ s.mdc.mode = .draining) := by
  simp [State.idleNow]

theorem State.settle_cradle (s : State) (c : Cradle) : s.settle.cradle c = s.cradle c := by
  have crm : s.settle.crm = { s.crm with blocked := s.settle.crm.blocked } := by
    simp [State.settle, State.reviewBlocked_crm]
  cases c <;> simp only [State.cradle] <;> rw [crm]

/-- What the tracker may change at the end of an event: the hold reason BLOCKED and what follows from it. -/
theorem State.reviewBlocked_ptr (s : State) :
    s.reviewBlocked.ptr = { s.ptr with
      holdBlocked := s.reviewBlocked.ptr.holdBlocked
      holdRead := s.reviewBlocked.ptr.holdRead
      coast := s.reviewBlocked.ptr.coast } := by
  unfold State.reviewBlocked
  (repeat' split) <;> simp [State.setHoldBlocked, State.readHold_ptr]

theorem State.settle_ptr (s : State) :
    s.settle.ptr = { s.ptr with
      holdBlocked := s.settle.ptr.holdBlocked
      holdRead := s.settle.ptr.holdRead
      coast := s.settle.ptr.coast } := by
  have h := s.reviewIdle.reviewBlocked_ptr
  simp only [State.reviewIdle_frame] at h
  exact h

/-- The end of an event leaves P and H (R78, R162). -/
@[simp] theorem State.settle_tags (s : State) :
    s.settle.ptr.p = s.ptr.p ∧ s.settle.ptr.h = s.ptr.h := by
  rw [State.settle_ptr]
  simp

/-- The transmitter, and the rest of the bus interface but the notices, at the end of an event (R45). -/
theorem State.settle_lbi (s : State) :
    ({ s.lbi with
      tx := if s.idleNow = true ∧ s.drivingClaim = true ∧
        (s.clu.round = .bidding ∨ s.clu.round = .won) then none else s.lbi.tx } : LineBus).NoticesGrow
      s.settle.lbi := by
  have grows := s.reviewIdle.reviewBlocked_grows
  unfold State.settle
  refine cast (congrArg (LineBus.NoticesGrow · _) ?_) grows
  cases h : s.idleNow with
  | false => simp [State.reviewIdle_of_not h]
  | true =>
    rw [State.reviewIdle_of_idleNow h, (s.changeMode_of_ends (m := .idle) rfl).2.2]
    simp

/-- Notices at the end of an event keep their places. -/
theorem State.settle_notices (s : State) : s.lbi.notices <+: s.settle.lbi.notices := s.settle_lbi.2

end Sys2Proof.Machine
end

section
/-! One step of the machine: a command from a running or a held state, the refusals (log 6), and RESET with the
state it leaves (R154, R182). -/

namespace Sys2Proof.Machine

/-! ## Steps and commands -/

theorem step_of_pending {s : State} {c : Instr} {rest : List Instr} (h : s.pending = c :: rest) :
    step s = exec c (s.setPending rest) := by
  rw [step, h]

theorem step_of_empty {s : State} (h : s.pending = []) : step s = .next s.tick := by
  rw [step, h]

/-- A step is one bit time, or a command on a state with another queue. -/
theorem step_cases {s t : State} (h : step s = .next t) :
    t = s.tick ∨ ∃ c rest, exec c (s.setPending rest) = .next t := by
  cases k : s.pending with
  | nil =>
    rw [step_of_empty k] at h
    injection h with e
    exact .inl e.symm
  | cons c rest => exact .inr ⟨c, rest, by rw [← step_of_pending k, h]⟩

/-- What holds before a guarded command, and after its meaning on a running state, holds after the command. -/
theorem running_keeps {P : State → Prop} {s t : State} {f : State → State} (h : running s f = .next t)
    (before : P s) (after : s.inReset = false → P (f s)) : P t := by
  obtain ⟨u, e, ⟨-, rfl⟩ | ⟨run, rfl⟩⟩ := running_cases s f <;>
    (rw [e] at h; injection h with h; subst h)
  · exact before
  · exact after run

theorem request_keeps {P : State → Prop} {s t : State} {button : Pin} {f : State → State}
    (h : request s button f = .next t) (before : P s) (after : s.inReset = false → P (f s)) : P t := by
  refine running_keeps h before fun run => ?_
  split
  · exact before
  · exact after run

/-! ## The refusals (log 6) -/

theorem exec_unknownKindFrame (code : BitVec 4) (s : State) :
    exec (.unknownKindFrame code) s =
      if unknownCode code then running s (fun s => if s.receiving then s.unknownKind else s)
      else .refused (.illFormed "UNKNOWN_KIND_FRAME") := rfl

theorem exec_noticeReceived (kind : FrameKind) (s : State) :
    exec (.noticeReceived kind) s =
      if kind.isPassiveNotice then running s (fun s => if s.receiving then s.frameEnd else s)
      else .refused (.illFormed "NOTICE_RECEIVED") := rfl

/-- Every command but the two that check an operand answers a next state by its meaning's first word. -/
theorem exec_of_wellFormed (c : Instr) (s : State) (h : c.wellFormed = true) : ∃ t, exec c s = .next t := by
  cases c with
  | unknownKindFrame code =>
    have unknown : unknownCode code = true := h
    rw [exec_unknownKindFrame, if_pos unknown]
    exact ⟨_, rfl⟩
  | noticeReceived kind =>
    have passive : kind.isPassiveNotice = true := h
    rw [exec_noticeReceived, if_pos passive]
    exact ⟨_, rfl⟩
  | _ => exact ⟨_, rfl⟩

theorem exec_of_illFormed (c : Instr) (s : State) (h : c.wellFormed = false) :
    ∃ m, exec c s = .refused (.illFormed m) := by
  cases c with
  | unknownKindFrame code =>
    have unknown : unknownCode code = false := h
    exact ⟨_, by rw [exec_unknownKindFrame, unknown, if_neg Bool.false_ne_true]⟩
  | noticeReceived kind =>
    have passive : kind.isPassiveNotice = false := h
    exact ⟨_, by rw [exec_noticeReceived, passive, if_neg Bool.false_ne_true]⟩
  | _ => exact absurd h (by simp [Instr.wellFormed])

/-- Settles O3, by the two commands that look at an operand. -/
theorem commandRefusedExactlyWhenIllFormed : Obligations.CommandRefusedExactlyWhenIllFormed :=
  fun c s => ⟨exec_of_wellFormed c s, exec_of_illFormed c s⟩

/-! ## RESET -/

/-- The state a reset leaves, with the readings it takes (R154, R62). -/
def afterReset (inputs : Inputs) (holdMarked : Bool) (pending : List Instr) : State :=
  let beam := fun (blocked : Bool) => (⟨blocked, if blocked then some 0 else none, false⟩ : Beam)
  let cradle := fun (present : Bool) =>
    (⟨if present then .stale else .absent, none, [], 0, none, none, none⟩ : CradleRec)
  let stale := inputs.pins.sensorA.level || inputs.pins.sensorB.level
  { ptr := ⟨none, none, false, 0, false, false, false, holdMarked, holdMarked, 0⟩
    rct := []
    clu := .atRest
    rol := ⟨[], none⟩
    drc := ⟨[], [], 0, none, .a, false, beam inputs.pins.beamA.level, beam inputs.pins.beamB.level⟩
    crm := ⟨cradle inputs.pins.sensorA.level, cradle inputs.pins.sensorB.level, false⟩
    alc := ⟨if stale then some ⟨.staleCradle, if inputs.pins.sensorA.level then 0 else 1, 0⟩ else none,
      none, [], [], none, none⟩
    lbi := ⟨.waitingIdle, 0, none, 0, if stale then [.alert] else [], false, false, false, none, none, none⟩
    mdc := ⟨.start, .reading, none, .stopped⟩
    inputs := inputs
    now := 0
    inReset := false
    pending := pending }

theorem exec_reset (powerOn : List (Pins Bool)) (s : State) :
    exec (.reset powerOn) s =
      .next (afterReset (s.inputs.powerOn powerOn).resetEnds s.ptr.holdOthers s.pending) := by
  have e : exec (.reset powerOn) s = execReset powerOn s := rfl
  rw [e, execReset]
  generalize (s.inputs.powerOn powerOn).resetEnds = x
  cases a : x.pins.sensorA.level <;> cases b : x.pins.sensorB.level <;>
    simp [afterReset, atReset, State.someStale, cradleAtReset, beamAtReset, a, b, State.raise1,
      State.attention, State.alertNotice, State.staleParam, State.stamp, Config.noticesMax,
      State.setAlc, State.setLbi, State.setCrm, State.setDrc, State.setPtr, State.setInputs,
      State.setPending, State.reset, CradleRec.absent, ClaimUnit.atRest]

/-- The levels that qualified before a reset ended, pin by pin (R182). -/
def State.qualifiedAt (s : State) (powerOn : List (Pins Bool)) (p : Pin) : Qualifier :=
  match powerOn with
  | [] => s.qualifier p
  | first :: later => later.foldl (fun q levels => { q with pin := levels.get p }.tick p)
      ⟨first.get p, first.get p, 0, false⟩

theorem State.powerOn_get (s : State) (powerOn : List (Pins Bool)) (p : Pin) :
    (s.inputs.powerOn powerOn).pins.get p = s.qualifiedAt powerOn p := by
  cases powerOn with
  | nil => rfl
  | cons first later => exact Inputs.powerOn_get s.inputs first later p

theorem State.powerOn_levels (s : State) (powerOn : List (Pins Bool)) :
    (s.inputs.powerOn powerOn).pitch = s.inputs.pitch ∧ (s.inputs.powerOn powerOn).dir = s.inputs.dir := by
  cases powerOn with
  | nil => exact ⟨rfl, rfl⟩
  | cons first later =>
    have h : ∀ (l : List (Pins Bool)) (x : Inputs),
        (l.foldl Inputs.read x).pitch = x.pitch ∧ (l.foldl Inputs.read x).dir = x.dir := by
      intro l
      induction l with
      | nil => exact fun x => ⟨rfl, rfl⟩
      | cons y ys ih => exact fun x => ih _
    exact h later _

/-- The end of a reset leaves the levels and sets the marks of those at true (R182). -/
theorem State.resetEnds_get (s : State) (powerOn : List (Pins Bool)) (p : Pin) :
    (s.inputs.powerOn powerOn).resetEnds.pins.get p =
      { s.qualifiedAt powerOn p with held := (s.qualifiedAt powerOn p).level } := by
  rw [Inputs.resetEnds_get, State.powerOn_get]
  rfl

/-- Settles O40: RESET block by block, with the qualifiers as their levels stood at its end. -/
theorem resetSetsEveryBlock : Obligations.ResetSetsEveryBlock := by
  intro s powerOn
  have get := s.resetEnds_get powerOn
  have beamA := congrArg Qualifier.level (get (.beam .a))
  have beamB := congrArg Qualifier.level (get (.beam .b))
  have sensorA := congrArg Qualifier.level (get (.sensor .a))
  have sensorB := congrArg Qualifier.level (get (.sensor .b))
  obtain ⟨pitch, dir⟩ := s.powerOn_levels powerOn
  refine ⟨_, exec_reset powerOn s, get, pitch, dir, pitch, ?_⟩
  simp only [Pins.get] at beamA beamB sensorA sensorB
  simp only [afterReset, beamA, beamB, sensorA, sensorB]
  rfl

end Sys2Proof.Machine
end

section
/-! The state after a reset is sound (R154, R182), and a station held in reset keeps still (R136, R182). -/

namespace Sys2Proof.Machine

/-! ## The blocks after a reset -/

theorem afterReset_books (x : Inputs) (hold : Bool) (l : List Instr) : Books (afterReset x hold l) := by
  have cradle : ∀ c, cradleBooks (afterReset x hold l) c := by
    intro c
    cases c <;> cases a : x.pins.sensorA.level <;> cases b : x.pins.sensorB.level <;>
      simp [cradleBooks, afterReset, State.cradle, State.boundRecipe, CradleRec.shape, State.claimCount,
        State.fallingCount, State.envelopeNow, State.committedLengths, envelopeOf, a, b]
  refine ⟨cradle .a, cradle .b, ?_⟩
  simp [afterReset, chosenBooks, ClaimUnit.atRest, Config.claimsMax, Config.fallingMax,
    Config.reofferMax]

theorem afterReset_alertsAgree (x : Inputs) (hold : Bool) (l : List Instr) :
    AlertsAgree (afterReset x hold l) := by
  cases a : x.pins.sensorA.level <;> cases b : x.pins.sensorB.level <;>
    simp [AlertsAgree, afterReset, inCodeOrder, State.level, State.places, State.standing, State.holds,
      State.someStale, Cause.isStop, Cause.code, a, b]
  rfl

theorem afterReset_busAgrees (x : Inputs) (hold : Bool) (l : List Instr) :
    BusAgrees (afterReset x hold l) := by
  cases a : x.pins.sensorA.level <;> cases b : x.pins.sensorB.level <;>
    simp [BusAgrees, afterReset, State.txAgrees, ClaimUnit.atRest, Config.noticesMax, Config.idleRun, a, b]

/-- A qualifier keeps its ranges: its run short of its time, and held only at a level of true (R182). -/
abbrev Qualifier.inRange (q : Qualifier) (p : Pin) : Prop :=
  q.run < p.qualifyTime ∧ (q.held = true → q.level = true)

theorem afterReset_trackerAgrees {x : Inputs} (hold : Bool) (l : List Instr)
    (pins : ∀ p, (x.pins.get p).inRange p) : TrackerAgrees (afterReset x hold l) := by
  refine ⟨rfl, ?_, fun _ => rfl, fun _ => rfl, rfl, ?_, fun _ => .inl rfl, Nat.zero_le _, Nat.zero_le _,
    Nat.zero_le _, fun p _ => pins p⟩
  · simp [afterReset]
  · simp [afterReset, State.idleNow]

/-! ## The qualifiers -/

theorem qualifyTime_pos (p : Pin) : 0 < p.qualifyTime := by
  cases p <;>
    simp [Pin.qualifyTime, Config.beamQualify, Config.sensorQualify, Config.panelQualify, Config.perMs]

/-- The levels read from power-on leave every run short of its time (R182). -/
theorem State.qualifiedAt_run {s : State} {powerOn : List (Pins Bool)} {p : Pin}
    (h : powerOn = [] → (s.qualifier p).run < p.qualifyTime) :
    (s.qualifiedAt powerOn p).run < p.qualifyTime := by
  cases powerOn with
  | nil => exact h rfl
  | cons first later =>
    have runs : ∀ (l : List (Pins Bool)) (q : Qualifier), q.run < p.qualifyTime →
        (l.foldl (fun q levels => ({ q with pin := levels.get p } : Qualifier).tick p) q).run <
          p.qualifyTime := by
      intro l
      induction l with
      | nil => exact fun q short => short
      | cons y ys ih => exact fun q _ => ih _ (Qualifier.tick_run _ _)
    exact runs later _ (qualifyTime_pos p)

/-! ## The statements on reset -/

theorem reset_sound {s t : State} {powerOn : List (Pins Bool)}
    (runs : powerOn = [] → ∀ p, (s.qualifier p).run < p.qualifyTime)
    (h : exec (.reset powerOn) s = .next t) : Sound t := by
  rw [exec_reset] at h
  injection h with h
  subst h
  refine ⟨afterReset_books _ _ _, afterReset_alertsAgree _ _ _, afterReset_busAgrees _ _ _,
    afterReset_trackerAgrees _ _ fun p => ?_⟩
  rw [State.resetEnds_get]
  exact ⟨State.qualifiedAt_run (runs · p), id⟩

/-- The state after reset is the one RESET leaves with every input inactive (log 3). -/
theorem reset_eq_afterReset : State.reset = afterReset .quiet false [] := rfl

/-- Settles O4: the state after any reset, block by block, with the runs kept or begun anew. -/
theorem soundAfterReset : Obligations.SoundAfterReset := by
  refine ⟨?_, fun powerOn s t runs => reset_sound runs⟩
  rw [reset_eq_afterReset]
  refine ⟨afterReset_books _ _ _, afterReset_alertsAgree _ _ _, afterReset_busAgrees _ _ _,
    afterReset_trackerAgrees _ _ fun p => ?_⟩
  have quiet : Inputs.quiet.pins.get p = .quiet := by
    rcases p with (c | c | c | c | _ | _ | _ | _ | _) <;> (try cases c) <;> rfl
  rw [quiet]
  exact ⟨(qualifyTime_pos p), id⟩

/-! ## Held in reset -/

/-- What a command does to a station held in reset: it tells a qualifier or the other parties' HOLD (R182). -/
def State.whileHeld (s : State) : Instr → State
  | .beamBlocked x => s.told (.beam x) true
  | .beamClear x => s.told (.beam x) false
  | .cradlePresent x => s.told (.sensor x) true
  | .cradleAbsent x => s.told (.sensor x) false
  | .holdLevelChange marked => s.setPtr { s.ptr with holdOthers := marked }
  | _ => s

/-- Held in reset a command tells a qualifier or the other parties' HOLD, or changes nothing (R136, R182). -/
theorem exec_of_inReset {s : State} (held : s.inReset = true) (c : Instr) (wf : c.wellFormed = true)
    (notReset : ∀ powerOn, c ≠ .reset powerOn) (notHeld : c ≠ .resetHeld) :
    exec c s = .next (s.whileHeld c) := by
  cases c with
  | reset powerOn => exact absurd rfl (notReset powerOn)
  | resetHeld => exact absurd rfl notHeld
  | unknownKindFrame code =>
    have unknown : unknownCode code = true := wf
    rw [exec_unknownKindFrame, if_pos unknown, running_of_inReset _ held]
    rfl
  | noticeReceived kind =>
    have passive : kind.isPassiveNotice = true := wf
    rw [exec_noticeReceived, if_pos passive, running_of_inReset _ held]
    rfl
  | _ => exact congrArg Host.Outcome.next (if_pos held)

/-- Settles O41: RESET_HELD field by field, and the guard of every other command. -/
theorem resetHeldReleasesTheOutputs : Obligations.ResetHeldReleasesTheOutputs := by
  intro s
  refine ⟨⟨_, rfl, ?_⟩, fun held c wf notReset notHeld => exec_of_inReset held c wf notReset notHeld⟩
  simp [State.holdDrive, State.gateOutput, State.lampRun, State.lampAttn, State.lampStop, State.lampFull,
    State.lampRefuse, State.readsMemory]

end Sys2Proof.Machine
end

section
/-! Each command as its guard and its meaning on a running station: `exec` said once for every row of the table. -/

namespace Sys2Proof.Machine

/-! ## Chapters 1 and 9: pulses, announcements, HOLD, the profile and the join timer -/

theorem exec_forwardPulse_eq (s : State) : exec .forwardPulse s = running s State.forwardPulse := rfl

theorem exec_reversePulse_eq (s : State) :
    exec .reversePulse s = running s fun s => s.setPtr { s.ptr with p := s.ptr.p.map (· - 1) } := rfl

theorem exec_announce_eq (st : Stem) (s : State) :
    exec (.announce st) s = running s fun s => if s.receiving then s.announce st else s := rfl

/-- The end of announce pending on a running station (R142). -/
def State.announcePendingEnd (s : State) : State :=
  match s.lbi.announcePending with
  | none => s
  | some t => (s.reach (t + Config.announcePendingTime)).endAnnouncePending

theorem exec_announcePendingEnd_eq (s : State) :
    exec .announcePendingEnd s = running s State.announcePendingEnd := rfl

theorem exec_holdLevelChange_eq (marked : Bool) (s : State) :
    exec (.holdLevelChange marked) s =
      running (s.setPtr { s.ptr with holdOthers := marked }) State.readHold := rfl

/-- The end of the profile read on a running station (R155 to R158). -/
def State.profileReadEnd (memory : SerialMemory) (s : State) : State :=
  if s.mdc.profileRead = .reading then
    match readFault memory.read, memory.read with
    | some param, _ => s.refuseProfile param
    | none, .image img => s.acceptProfile img
    | none, .failed => s
  else s

theorem exec_profileReadEnd_eq (memory : SerialMemory) (s : State) :
    exec (.profileReadEnd memory) s = running s (State.profileReadEnd memory) := rfl

/-- The end of the join timer on a running station (R159, R165). -/
def State.joinTimerEnd (s : State) : State :=
  match s.mdc.joinTimer with
  | .running t =>
    let s := (s.reach (t + Config.joinTime)).setMdc { s.mdc with joinTimer := .stopped }
    if s.mdc.mode = .joining then (s.changeMode .active).settle
    else if s.mdc.mode = .stopped ∧ s.alc.savedMode = some .joining then
      s.setAlc { s.alc with savedMode := some .active }
    else s
  | _ => s

theorem exec_joinTimerEnd_eq (s : State) : exec .joinTimerEnd s = running s State.joinTimerEnd := rfl

/-- A JOIN heard (R160). -/
def State.joinHeard (number : StationNo) (s : State) : State :=
  if s.number = some number then (s.joinNotice .conflict).raise2 .duplicate (numberParam number) else s

theorem exec_joinReceived_eq (number : StationNo) (s : State) :
    exec (.joinReceived number) s =
      running s fun s => if s.receiving then s.frameEnd.joinHeard number else s := rfl

/-- A CONFLICT heard (R160). -/
def State.conflictHeard (number : StationNo) (s : State) : State :=
  if s.number = some number then s.raise2 .duplicate (numberParam number) else s

theorem exec_conflictReceived_eq (number : StationNo) (s : State) :
    exec (.conflictReceived number) s =
      running s fun s => if s.receiving then s.frameEnd.conflictHeard number else s := rfl

/-! ## Chapters 3, 6 and 8: the claim round, the Re-offer List and the bus -/

theorem exec_claimStart_eq (s : State) :
    exec .claimStart s = running s fun s => s.startClaim .claim s.lbi.claimReserve := rfl

theorem exec_reclaimStart_eq (s : State) :
    exec .reclaimStart s = running s fun s => s.startClaim .reclaim s.lbi.reclaimReserve := rfl

/-- A bidder whose last bid bit is driven is the remaining sender (R43). -/
def State.win (s : State) : State :=
  if s.clu.round = .bidding ∧ s.drivingClaim then s.setClu { s.clu with round := .won } else s

theorem exec_won_eq (s : State) : exec .won s = running s State.win := rfl

theorem exec_claimSent_eq (s : State) :
    exec .claimSent s = running s fun s => s.claimFrameEnd .claim := rfl

theorem exec_reclaimSent_eq (s : State) :
    exec .reclaimSent s = running s fun s => s.claimFrameEnd .reclaim := rfl

theorem exec_sentCommand_eq (kind : RoundKind) (s : State) :
    exec (sentCommand kind) s = running s fun s => s.claimFrameEnd kind := by
  cases kind <;> rfl

theorem exec_claimReceived_eq (kind : RoundKind) (s : State) :
    exec (.claimReceived kind) s = running s fun s => if s.receiving then s.frameEnd else s := rfl

theorem exec_reofferReceived_eq (station : StationNo) (st : Stem) (s : State) :
    exec (.reofferReceived station st) s = running s fun s =>
      if s.receiving then (s.frameEnd.takeReoffer st).openReclaimReserve else s := rfl

theorem exec_startMark_eq (s : State) : exec .startMark s = running s State.startMark := rfl

/-- The bus idle on a running station (R139, R141). -/
def State.becomeIdle (s : State) : State :=
  if s.lbi.receiver = .inFrame then s
  else (s.setLbi { s.lbi with receiver := .waitingStart, openRun := Config.idleRun }).endLost

theorem exec_busIdle_eq (s : State) : exec .busIdle s = running s State.becomeIdle := rfl

theorem exec_arbitrationLoss_eq (s : State) :
    exec .arbitrationLoss s = running s State.loseArbitration := rfl

theorem exec_transmitMismatch_eq (atStart : Bool) (s : State) :
    exec (.transmitMismatch atStart) s = running s fun s => s.mismatch atStart := rfl

theorem exec_badCheckFrame_eq (kind : FrameKind) (s : State) :
    exec (.badCheckFrame kind) s =
      running s fun s => if s.receiving then s.frameEnd.badFrame kind else s := rfl

theorem exec_frameCutShort_eq (kind : FrameKind) (s : State) :
    exec (.frameCutShort kind) s = running s fun s => if s.receiving then s.cutShort kind else s := rfl

theorem exec_unknownKindFrame_eq {code : BitVec 4} (h : unknownCode code = true) (s : State) :
    exec (.unknownKindFrame code) s = running s fun s => if s.receiving then s.unknownKind else s :=
  if_pos h

theorem exec_noticeReceived_eq {kind : FrameKind} (h : kind.isPassiveNotice = true) (s : State) :
    exec (.noticeReceived kind) s = running s fun s => if s.receiving then s.frameEnd else s :=
  if_pos h

/-- The quiet end of the claim reserve (R143). -/
def State.claimReserveEnd (s : State) : State :=
  match s.lbi.claimReserve with
  | none => s
  | some t =>
    if s.lbi.receiver = .inFrame then s
    else (s.reach (t + Config.reserveTime)).setLbi { s.lbi with claimReserve := none }

theorem exec_claimReserveEnd_eq (s : State) : exec .claimReserveEnd s = running s State.claimReserveEnd := rfl

/-- The quiet end of the reclaim reserve (R143). -/
def State.reclaimReserveEnd (s : State) : State :=
  match s.lbi.reclaimReserve with
  | none => s
  | some t =>
    if s.lbi.receiver = .inFrame then s
    else (s.reach (t + Config.reserveTime)).setLbi { s.lbi with reclaimReserve := none }

theorem exec_reclaimReserveEnd_eq (s : State) :
    exec .reclaimReserveEnd s = running s State.reclaimReserveEnd := rfl

/-- The start of a REOFFER, or of a notice where the expiry check leaves none (R106). -/
def State.reofferSend (s : State) : State :=
  if s.startPoint && !s.rol.entries.isEmpty then
    if s.expire.rol.entries.isEmpty then s.expire.startNotice else s.expire.startReoffer
  else s

theorem exec_reofferSend_eq (s : State) : exec .reofferSend s = running s State.reofferSend := rfl

/-- The entry that was sent leaves the list, and the reclaim reserve opens (R107, R143). -/
def State.reofferLeaves (s : State) : State :=
  (s.ownFrameEnd.setRol
    { entries := s.rol.entries.filter fun e => s.rol.sending != some e.tag, sending := none }).openReclaimReserve

/-- The end of a REOFFER the station has driven (R107). -/
def State.reofferSent (s : State) : State :=
  match s.lbi.tx with
  | some (.reoffer _ _) => s.reofferLeaves
  | _ => s

theorem exec_reofferSent_eq (s : State) : exec .reofferSent s = running s State.reofferSent := by
  have own : ∀ s : State, s.ownFrameEnd.rol = s.rol := fun s => by simp
  have meaning : ∀ s : State, (match s.lbi.tx with
      | some (.reoffer _ _) =>
        (s.ownFrameEnd.setRol { entries := s.ownFrameEnd.rol.entries.filter fun e =>
          s.ownFrameEnd.rol.sending != some e.tag, sending := none }).openReclaimReserve
      | _ => s) = s.reofferSent := by
    intro s
    unfold State.reofferSent
    split
    · rw [own]
      rfl
    · rfl
  exact congrArg (running s) (funext meaning)

/-- The start of the notice at the head of the queue (R141, R149). -/
def State.noticeSend (s : State) : State :=
  if s.startPoint && s.expire.rol.entries.isEmpty && !s.lbi.notices.isEmpty then s.expire.startNotice
  else s

theorem exec_noticeSend_eq (s : State) : exec .noticeSend s = running s State.noticeSend := rfl

/-- The end of a notice frame the station has driven (R149, R151, R152, R159). -/
def State.noticeSent (s : State) : State :=
  match s.lbi.tx with
  | none | some (.claim _ _ _) | some (.reoffer _ _) => s
  | some f => ((s.ownFrameEnd.clearLost f).noticeLeaves).startJoinTimer f

theorem exec_noticeSent_eq (s : State) : exec .noticeSent s = running s State.noticeSent := rfl

/-- A QUERY for the number this station holds is answered (R173). -/
def State.queried (target : StationNo) (topic : Fin 16) (s : State) : State :=
  if s.number = some target then s.respond topic else s

theorem exec_query_eq (target : StationNo) (topic : Fin 16) (s : State) :
    exec (.query target topic) s =
      running s fun s => if s.receiving then s.frameEnd.queried target topic else s := rfl

/-! ## Chapters 4 and 5: cradles, beams and drops -/

/-- A cradle placed (R64). -/
def State.cradlePlaced (c : Cradle) (s : State) : State :=
  if (s.cradle c).state = .absent then (s.setCradle c { s.cradle c with state := .empty }).settle else s

theorem exec_cradlePresent_eq (c : Cradle) (s : State) :
    exec (.cradlePresent c) s = running (s.told (.sensor c) true) (State.cradlePlaced c) := rfl

/-- A cradle lifted out, by the state it is found in (R61). -/
def State.cradleLifted (c : Cradle) (s : State) : State :=
  match (s.cradle c).state with
  | .absent => s
  | .stale => (s.removeStale c).settle
  | .empty => (s.setCradle c { s.cradle c with state := .absent }).settle
  | .complete => (s.removeComplete c).settle
  | .filling | .closing => (s.removePremature c).settle

theorem exec_cradleAbsent_eq (c : Cradle) (s : State) :
    exec (.cradleAbsent c) s = running (s.told (.sensor c) false) (State.cradleLifted c) := rfl

/-- The removal timer at the removal limit (R71). -/
def State.removalOverdue (c : Cradle) (s : State) : State :=
  match (s.cradle c).removal with
  | none => s
  | some t =>
    let due := t + s.profileTime (·.removalLimit) * 10 * Config.removalStep
    let s := s.reach due
    let s := s.setCradle c { s.cradle c with removal := some due }
    s.raise1 .removalOverdue (cradleParam c)

theorem exec_removalOverdue_eq (c : Cradle) (s : State) :
    exec (.removalOverdue c) s = running s (State.removalOverdue c) := rfl

/-- A beam that breaks (R88). -/
def State.beamBreaks (c : Cradle) (s : State) : State :=
  if (s.beam c).blocked then s
  else ((s.setBeam c { s.beam c with blocked := true, timer := some s.now }).judgeBreak c).settle

theorem exec_beamBlocked_eq (c : Cradle) (s : State) :
    exec (.beamBlocked c) s = running (s.told (.beam c) true) (State.beamBreaks c) := rfl

/-- A beam that clears (R88). -/
def State.beamClears (c : Cradle) (s : State) : State :=
  if (s.beam c).blocked then s.setBeam c Beam.clear else s

theorem exec_beamClear_eq (c : Cradle) (s : State) :
    exec (.beamClear c) s = running (s.told (.beam c) false) (State.beamClears c) := rfl

/-- The window of the oldest WAITING entry opens (R87). -/
def State.windowOpen (s : State) : State :=
  match s.drc.falling.find? (·.window == .waiting) with
  | none => s
  | some f =>
    (s.reach (f.fireTime + s.profileTime (·.tmin) * Config.perMs)).setDrc
      { s.drc with falling := openFirst s.drc.falling }

theorem exec_windowOpen_eq (s : State) : exec .windowOpen s = running s State.windowOpen := rfl

/-- The oldest falling entry misses (R92). -/
def State.miss (s : State) : State :=
  match s.drc.falling with
  | [] => s
  | f :: rest =>
    if f.window = .opened then
      (s.reach (f.fireTime + s.profileTime (·.tmax) * Config.perMs)).missed f rest
    else s

theorem exec_miss_eq (s : State) : exec .miss s = running s State.miss := rfl

/-- The end of the gate pulse (R85). -/
def State.gatePulseEnd (s : State) : State :=
  match s.drc.gate with
  | none => s
  | some t => (s.reach (t + Config.gatePulseTime)).setDrc { s.drc with gate := none }

theorem exec_gatePulseEnd_eq (s : State) : exec .gatePulseEnd s = running s State.gatePulseEnd := rfl

/-- A beam blocked for 2000 ms (R94). -/
def State.gateStuck (c : Cradle) (s : State) : State :=
  match (s.beam c).timer with
  | none => s
  | some t =>
    if (s.beam c).blocked ∧ (s.beam c).stuckRaised = false then
      let s := s.reach (t + Config.stuckTime)
      let s := s.setBeam c { s.beam c with timer := none, stuckRaised := true }
      s.raise2 .gateStuck (cradleParam c)
    else s

theorem exec_gateStuck_eq (c : Cradle) (s : State) :
    exec (.gateStuck c) s = running s (State.gateStuck c) := rfl

/-! ## The station panel -/

/-- PULL (R75). -/
def State.pull (c : Cradle) (s : State) : State :=
  if (s.cradle c).mayPull then
    ((s.setCradle c { s.cradle c with stack := (s.cradle c).stack.tail }).afterLoss c).settle
  else s.refusePulse

theorem exec_pull_eq (c : Cradle) (s : State) : exec (.pull c) s = request s (.pull c) (State.pull c) := rfl

/-- The bunch of a cradle closes SHORT, its pending entries forfeited (R76). -/
def State.closeShort (c : Cradle) (s : State) : State :=
  ((s.forfeitCradle c).setCradle c { s.cradle c with
    committed := 0, envelope := envelopeOf ((s.cradle c).stack.map (·.length.val)) }).complete c .short

/-- FINISH (R76). -/
def State.finish (c : Cradle) (key : Bool) (s : State) : State :=
  if s.mayFinish c key then (s.closeShort c).settle else s.refusePulse

theorem exec_finish_eq (c : Cradle) (key : Bool) (s : State) :
    exec (.finish c key) s = request s (.finish c) (State.finish c key) := by
  have forfeit : ∀ s : State, (s.forfeitCradle c).cradle c = s.cradle c :=
    fun s => State.cradle_congr c (by simp)
  have meaning : ∀ s : State, (if s.mayFinish c key then
      (((s.forfeitCradle c).setCradle c { (s.forfeitCradle c).cradle c with
        committed := 0
        envelope := envelopeOf (((s.forfeitCradle c).cradle c).stack.map (·.length.val)) }).complete c
          .short).settle
      else s.refusePulse) = s.finish c key := by
    intro s
    rw [forfeit]
    rfl
  exact congrArg (request s (.finish c)) (funext meaning)

/-- CLEAR (R126, R127). -/
def State.clear (key : Bool) (s : State) : State :=
  match s.alc.current with
  | none => s.refusePulse
  | some r =>
    if r.cause.isStop then (if key && s.mayClearStop r then s.retire2 else s.refusePulse)
    else if r.cause.isCondition then s.refusePulse
    else s.retire1

theorem exec_clear_eq (key : Bool) (s : State) : exec (.clear key) s = request s .clear (State.clear key) := rfl

theorem exec_cancel_eq (s : State) :
    exec .cancel s = request s .cancel fun s => s.setAlc { s.alc with pend1 := s.pendingConditions } := rfl

/-- DRAIN (R163). -/
def State.drain (s : State) : State :=
  if s.mdc.mode = .active then (s.changeMode .draining).settle else s.refusePulse

theorem exec_drain_eq (s : State) : exec .drain s = request s .drain State.drain := rfl

/-- RESUME (R164). -/
def State.resume (s : State) : State :=
  if s.mayResume then (s.changeMode .active).settle else s.refusePulse

theorem exec_resume_eq (s : State) : exec .resume s = request s .resume State.resume := rfl

/-- The end of the REFUSE pulse (R132). -/
def State.refusePulseEnd (s : State) : State :=
  match s.alc.refuse with
  | none => s
  | some t => (s.reach (t + Config.refuseTime)).setAlc { s.alc with refuse := none }

theorem exec_refusePulseEnd_eq (s : State) : exec .refusePulseEnd s = running s State.refusePulseEnd := rfl

/-! ## RESET_HELD -/

/-- The outputs released as RESETN goes low (R30, R85, R132, R136, R182). -/
def State.released (s : State) : State :=
  { s with
    ptr := { s.ptr with holdBlocked := false, holdStop := false }
    clu := .atRest
    rol := { s.rol with sending := none }
    drc := { s.drc with gate := none, diverter := .a }
    alc := { s.alc with refuse := none }
    lbi := { s.lbi with tx := none }
    inReset := true }

theorem exec_resetHeld_eq (s : State) : exec .resetHeld s = .next s.released := rfl

/-! ## All commands together -/

/-- What is done with a frame of another device, where one is being received (R139, R140). -/
def State.hears (s : State) (f : State → State) : State := if s.receiving then f s else s

/-- What is done at the press of a button that is not held since a reset (R125, R182). -/
def State.pressed (s : State) (button : Pin) (f : State → State) : State :=
  if (s.qualifier button).held then s else f s

/-- What each command but RESET and RESET_HELD does on a running station. -/
def State.operate (s : State) : Instr → State
  | .reset _ | .resetHeld => s
  | .profileReadEnd memory => s.profileReadEnd memory
  | .forwardPulse => s.forwardPulse
  | .reversePulse => s.setPtr { s.ptr with p := s.ptr.p.map (· - 1) }
  | .announce st => s.hears (·.announce st)
  | .announcePendingEnd => s.announcePendingEnd
  | .holdLevelChange marked => (s.setPtr { s.ptr with holdOthers := marked }).readHold
  | .claimStart => s.startClaim .claim s.lbi.claimReserve
  | .reclaimStart => s.startClaim .reclaim s.lbi.reclaimReserve
  | .arbitrationLoss => s.loseArbitration
  | .transmitMismatch atStart => s.mismatch atStart
  | .claimSent => s.claimFrameEnd .claim
  | .reclaimSent => s.claimFrameEnd .reclaim
  | .claimReceived _ => s.hears State.frameEnd
  | .reofferReceived _ st => s.hears fun s => (s.frameEnd.takeReoffer st).openReclaimReserve
  | .badCheckFrame kind => s.hears fun s => s.frameEnd.badFrame kind
  | .frameCutShort kind => s.hears (·.cutShort kind)
  | .unknownKindFrame _ => s.hears State.unknownKind
  | .busIdle => s.becomeIdle
  | .claimReserveEnd => s.claimReserveEnd
  | .reclaimReserveEnd => s.reclaimReserveEnd
  | .reofferSend => s.reofferSend
  | .reofferSent => s.reofferSent
  | .noticeSend => s.noticeSend
  | .noticeSent => s.noticeSent
  | .joinTimerEnd => s.joinTimerEnd
  | .joinReceived number => s.hears fun s => s.frameEnd.joinHeard number
  | .conflictReceived number => s.hears fun s => s.frameEnd.conflictHeard number
  | .noticeReceived _ => s.hears State.frameEnd
  | .query target topic => s.hears fun s => s.frameEnd.queried target topic
  | .cradlePresent c => (s.told (.sensor c) true).cradlePlaced c
  | .cradleAbsent c => (s.told (.sensor c) false).cradleLifted c
  | .beamBlocked c => (s.told (.beam c) true).beamBreaks c
  | .beamClear c => (s.told (.beam c) false).beamClears c
  | .windowOpen => s.windowOpen
  | .miss => s.miss
  | .gatePulseEnd => s.gatePulseEnd
  | .gateStuck c => s.gateStuck c
  | .removalOverdue c => s.removalOverdue c
  | .pull c => s.pressed (.pull c) (·.pull c)
  | .finish c key => s.pressed (.finish c) (·.finish c key)
  | .clear key => s.pressed .clear (·.clear key)
  | .cancel => s.pressed .cancel fun s => s.setAlc { s.alc with pend1 := s.pendingConditions }
  | .drain => s.pressed .drain State.drain
  | .resume => s.pressed .resume State.resume
  | .refusePulseEnd => s.refusePulseEnd
  | .startMark => s.startMark
  | .won => s.win

theorem exec_of_running {s : State} (run : s.inReset = false) (c : Instr) (wf : c.wellFormed = true)
    (notReset : ∀ powerOn, c ≠ .reset powerOn) (notHeld : c ≠ .resetHeld) :
    exec c s = .next (s.operate c) := by
  cases c with
  | reset powerOn => exact absurd rfl (notReset powerOn)
  | resetHeld => exact absurd rfl notHeld
  | unknownKindFrame code =>
    rw [exec_unknownKindFrame_eq wf, running_of_running _ run]
    rfl
  | noticeReceived kind =>
    rw [exec_noticeReceived_eq wf, running_of_running _ run]
    rfl
  | reofferSent => rw [exec_reofferSent_eq, running_of_running _ run]; rfl
  | finish c key => rw [exec_finish_eq, request, running_of_running _ run]; rfl
  | _ => exact congrArg Host.Outcome.next (if_neg (Bool.eq_false_iff.mp run))

theorem wellFormed_of_next {c : Instr} {s t : State} (h : exec c s = .next t) : c.wellFormed = true := by
  cases wf : c.wellFormed with
  | true => rfl
  | false =>
    obtain ⟨m, e⟩ := exec_of_illFormed c s wf
    exact absurd (e.symm.trans h) (by simp)

/-- What a command does from any state: RESET and RESET_HELD their own, and any other its meaning on a running
station, or next to nothing on one held in reset. -/
theorem exec_keeps {P : State → Prop} {c : Instr} {s t : State} (h : exec c s = .next t)
    (reset : ∀ powerOn, exec (.reset powerOn) s = .next t → P t) (released : P s.released)
    (held : s.inReset = true → P (s.whileHeld c)) (operated : s.inReset = false → P (s.operate c)) : P t := by
  have wf := wellFormed_of_next h
  by_cases isReset : ∃ powerOn, c = .reset powerOn
  · obtain ⟨powerOn, rfl⟩ := isReset
    exact reset powerOn h
  by_cases isHeld : c = .resetHeld
  · subst isHeld
    rw [exec_resetHeld_eq] at h
    injection h with h
    exact h ▸ released
  have notReset : ∀ powerOn, c ≠ .reset powerOn := fun powerOn e => isReset ⟨powerOn, e⟩
  cases run : s.inReset with
  | true =>
    rw [exec_of_inReset run c wf notReset isHeld] at h
    injection h with h
    exact h ▸ held run
  | false =>
    rw [exec_of_running run c wf notReset isHeld] at h
    injection h with h
    exact h ▸ operated run

theorem Pin.mem_all (p : Pin) : p ∈ Pin.all := by
  rcases p with (c | c | c | c | _ | _ | _ | _ | _) <;> (try cases c) <;> decide

/-- A part of soundness is kept by every step when it is kept by a bit time and by every command. -/
theorem step_keeps {P : State → Prop} {s t : State} (sound : Sound s) (h : step s = .next t)
    (ofSound : ∀ u, Sound u → P u) (tick : P s.tick) (released : ∀ u, Sound u → P u.released)
    (held : ∀ c u, Sound u → u.inReset = true → P (u.whileHeld c))
    (operated : ∀ c u, Sound u → u.inReset = false → P (u.operate c)) : P t := by
  obtain rfl | ⟨c, rest, h⟩ := step_cases h
  · exact tick
  · have queued : Sound (s.setPending rest) := sound
    obtain ⟨-, -, -, -, -, -, -, -, -, -, -, -, -, pins⟩ := sound
    have reset := fun powerOn e => ofSound t
      (reset_sound (s := s.setPending rest) (powerOn := powerOn) (fun _ p => (pins p (Pin.mem_all p)).1) e)
    exact exec_keeps h reset (released _ queued) (held c _ queued) (operated c _ queued)

theorem State.hears_keeps {P : State → Prop} {s : State} {f : State → State} (same : P s)
    (heard : s.receiving = true → P (f s)) : P (s.hears f) := by
  unfold State.hears
  split
  · exact heard (by assumption)
  · exact same

theorem State.pressed_keeps {P : State → Prop} {s : State} {f : State → State} (button : Pin) (same : P s)
    (free : P (f s)) : P (s.pressed button f) := by
  unfold State.pressed
  split
  · exact same
  · exact free

end Sys2Proof.Machine
end

section
/-! The frames of the commands' own operations, as Laws/Frames.lean has those of the shared ones: for each, the
blocks it leaves as they were. -/

namespace Sys2Proof.Machine

/-! ## The line bus -/

/-- `State.startMark` changes no block but clu, lbi. -/
@[simp] theorem State.startMark_frame (s : State) :
    (s.startMark).ptr = s.ptr ∧ (s.startMark).rct = s.rct ∧ (s.startMark).rol = s.rol ∧
      (s.startMark).drc = s.drc ∧ (s.startMark).crm = s.crm ∧ (s.startMark).alc = s.alc ∧
      (s.startMark).mdc = s.mdc ∧ (s.startMark).inputs = s.inputs ∧ (s.startMark).now = s.now ∧
      (s.startMark).inReset = s.inReset ∧ (s.startMark).pending = s.pending := by
  unfold State.startMark
  (repeat' split) <;> simp

/-- `State.becomeIdle` changes no block but clu, lbi. -/
@[simp] theorem State.becomeIdle_frame (s : State) :
    (s.becomeIdle).ptr = s.ptr ∧ (s.becomeIdle).rct = s.rct ∧ (s.becomeIdle).rol = s.rol ∧
      (s.becomeIdle).drc = s.drc ∧ (s.becomeIdle).crm = s.crm ∧ (s.becomeIdle).alc = s.alc ∧
      (s.becomeIdle).mdc = s.mdc ∧ (s.becomeIdle).inputs = s.inputs ∧ (s.becomeIdle).now = s.now ∧
      (s.becomeIdle).inReset = s.inReset ∧ (s.becomeIdle).pending = s.pending := by
  unfold State.becomeIdle
  (repeat' split) <;> simp

/-- `State.stopDriving` changes no block but rol, lbi. -/
@[simp] theorem State.stopDriving_frame (s : State) :
    (s.stopDriving).ptr = s.ptr ∧ (s.stopDriving).rct = s.rct ∧ (s.stopDriving).clu = s.clu ∧
      (s.stopDriving).drc = s.drc ∧ (s.stopDriving).crm = s.crm ∧ (s.stopDriving).alc = s.alc ∧
      (s.stopDriving).mdc = s.mdc ∧ (s.stopDriving).inputs = s.inputs ∧ (s.stopDriving).now = s.now ∧
      (s.stopDriving).inReset = s.inReset ∧ (s.stopDriving).pending = s.pending := by
  simp [State.stopDriving]

/-- `State.loseArbitration` changes no block but clu, rol, lbi. -/
@[simp] theorem State.loseArbitration_frame (s : State) :
    (s.loseArbitration).ptr = s.ptr ∧ (s.loseArbitration).rct = s.rct ∧
      (s.loseArbitration).drc = s.drc ∧ (s.loseArbitration).crm = s.crm ∧
      (s.loseArbitration).alc = s.alc ∧ (s.loseArbitration).mdc = s.mdc ∧
      (s.loseArbitration).inputs = s.inputs ∧ (s.loseArbitration).now = s.now ∧
      (s.loseArbitration).inReset = s.inReset ∧ (s.loseArbitration).pending = s.pending := by
  unfold State.loseArbitration
  (repeat' split) <;> simp

/-- `State.mismatchReceiver` changes no block but lbi. -/
@[simp] theorem State.mismatchReceiver_frame (s : State) (atStart : Bool) :
    (s.mismatchReceiver atStart).ptr = s.ptr ∧ (s.mismatchReceiver atStart).rct = s.rct ∧
      (s.mismatchReceiver atStart).clu = s.clu ∧ (s.mismatchReceiver atStart).rol = s.rol ∧
      (s.mismatchReceiver atStart).drc = s.drc ∧ (s.mismatchReceiver atStart).crm = s.crm ∧
      (s.mismatchReceiver atStart).alc = s.alc ∧ (s.mismatchReceiver atStart).mdc = s.mdc ∧
      (s.mismatchReceiver atStart).inputs = s.inputs ∧ (s.mismatchReceiver atStart).now = s.now ∧
      (s.mismatchReceiver atStart).inReset = s.inReset ∧
      (s.mismatchReceiver atStart).pending = s.pending := by
  unfold State.mismatchReceiver
  (repeat' split) <;> simp

/-- `State.countMismatch` changes no block but ptr, rct, clu, rol, drc, crm, alc, lbi, mdc. -/
@[simp] theorem State.countMismatch_frame (s : State) :
    (s.countMismatch).inputs = s.inputs ∧ (s.countMismatch).now = s.now ∧
      (s.countMismatch).inReset = s.inReset ∧ (s.countMismatch).pending = s.pending := by
  unfold State.countMismatch
  (repeat' split) <;> simp

/-- `State.mismatch` changes no block but ptr, rct, clu, rol, drc, crm, alc, lbi, mdc. -/
@[simp] theorem State.mismatch_frame (s : State) (atStart : Bool) :
    (s.mismatch atStart).inputs = s.inputs ∧ (s.mismatch atStart).now = s.now ∧
      (s.mismatch atStart).inReset = s.inReset ∧ (s.mismatch atStart).pending = s.pending := by
  unfold State.mismatch
  dsimp only
  (repeat' split) <;> simp

/-- `State.cutShort` changes no block but ptr, clu, alc, lbi. -/
@[simp] theorem State.cutShort_frame (s : State) (kind : FrameKind) :
    (s.cutShort kind).rct = s.rct ∧ (s.cutShort kind).rol = s.rol ∧ (s.cutShort kind).drc = s.drc ∧
      (s.cutShort kind).crm = s.crm ∧ (s.cutShort kind).mdc = s.mdc ∧
      (s.cutShort kind).inputs = s.inputs ∧ (s.cutShort kind).now = s.now ∧
      (s.cutShort kind).inReset = s.inReset ∧ (s.cutShort kind).pending = s.pending := by
  unfold State.cutShort
  dsimp only
  (repeat' split) <;> simp

/-- `State.unknownKind` changes no block but lbi. -/
@[simp] theorem State.unknownKind_frame (s : State) :
    (s.unknownKind).ptr = s.ptr ∧ (s.unknownKind).rct = s.rct ∧ (s.unknownKind).clu = s.clu ∧
      (s.unknownKind).rol = s.rol ∧ (s.unknownKind).drc = s.drc ∧ (s.unknownKind).crm = s.crm ∧
      (s.unknownKind).alc = s.alc ∧ (s.unknownKind).mdc = s.mdc ∧ (s.unknownKind).inputs = s.inputs ∧
      (s.unknownKind).now = s.now ∧ (s.unknownKind).inReset = s.inReset ∧
      (s.unknownKind).pending = s.pending := by
  simp [State.unknownKind]

/-- `State.claimReserveEnd` changes no block but lbi, now. -/
@[simp] theorem State.claimReserveEnd_frame (s : State) :
    (s.claimReserveEnd).ptr = s.ptr ∧ (s.claimReserveEnd).rct = s.rct ∧
      (s.claimReserveEnd).clu = s.clu ∧ (s.claimReserveEnd).rol = s.rol ∧
      (s.claimReserveEnd).drc = s.drc ∧ (s.claimReserveEnd).crm = s.crm ∧
      (s.claimReserveEnd).alc = s.alc ∧ (s.claimReserveEnd).mdc = s.mdc ∧
      (s.claimReserveEnd).inputs = s.inputs ∧ (s.claimReserveEnd).inReset = s.inReset ∧
      (s.claimReserveEnd).pending = s.pending := by
  unfold State.claimReserveEnd
  (repeat' split) <;> simp

/-- `State.reclaimReserveEnd` changes no block but lbi, now. -/
@[simp] theorem State.reclaimReserveEnd_frame (s : State) :
    (s.reclaimReserveEnd).ptr = s.ptr ∧ (s.reclaimReserveEnd).rct = s.rct ∧
      (s.reclaimReserveEnd).clu = s.clu ∧ (s.reclaimReserveEnd).rol = s.rol ∧
      (s.reclaimReserveEnd).drc = s.drc ∧ (s.reclaimReserveEnd).crm = s.crm ∧
      (s.reclaimReserveEnd).alc = s.alc ∧ (s.reclaimReserveEnd).mdc = s.mdc ∧
      (s.reclaimReserveEnd).inputs = s.inputs ∧ (s.reclaimReserveEnd).inReset = s.inReset ∧
      (s.reclaimReserveEnd).pending = s.pending := by
  unfold State.reclaimReserveEnd
  (repeat' split) <;> simp

/-! ## The claim round -/

/-- `State.commit` changes no block but rct, drc, crm. -/
@[simp] theorem State.commit_frame (s : State) (c : Candidate) :
    (s.commit c).ptr = s.ptr ∧ (s.commit c).clu = s.clu ∧ (s.commit c).rol = s.rol ∧
      (s.commit c).alc = s.alc ∧ (s.commit c).lbi = s.lbi ∧ (s.commit c).mdc = s.mdc ∧
      (s.commit c).inputs = s.inputs ∧ (s.commit c).now = s.now ∧ (s.commit c).inReset = s.inReset ∧
      (s.commit c).pending = s.pending := by
  unfold State.commit
  dsimp only
  (repeat' split) <;> simp

/-- `State.wonFrameEnd` changes no block but ptr, rct, clu, rol, drc, crm, alc, lbi, mdc. -/
@[simp] theorem State.wonFrameEnd_frame (s : State) (c : Candidate) :
    (s.wonFrameEnd c).inputs = s.inputs ∧ (s.wonFrameEnd c).now = s.now ∧
      (s.wonFrameEnd c).inReset = s.inReset ∧ (s.wonFrameEnd c).pending = s.pending := by
  unfold State.wonFrameEnd
  dsimp only
  (repeat' split) <;> simp

/-- `State.claimFrameEnd` changes no block but ptr, rct, clu, rol, drc, crm, alc, lbi, mdc. -/
@[simp] theorem State.claimFrameEnd_frame (s : State) (kind : RoundKind) :
    (s.claimFrameEnd kind).inputs = s.inputs ∧ (s.claimFrameEnd kind).now = s.now ∧
      (s.claimFrameEnd kind).inReset = s.inReset ∧ (s.claimFrameEnd kind).pending = s.pending := by
  unfold State.claimFrameEnd
  (repeat' split) <;> simp

/-- `State.startClaim` changes no block but lbi, now. -/
@[simp] theorem State.startClaim_frame (s : State) (kind : RoundKind) (since : Option Nat) :
    (s.startClaim kind since).ptr = s.ptr ∧ (s.startClaim kind since).rct = s.rct ∧
      (s.startClaim kind since).clu = s.clu ∧ (s.startClaim kind since).rol = s.rol ∧
      (s.startClaim kind since).drc = s.drc ∧ (s.startClaim kind since).crm = s.crm ∧
      (s.startClaim kind since).alc = s.alc ∧ (s.startClaim kind since).mdc = s.mdc ∧
      (s.startClaim kind since).inputs = s.inputs ∧ (s.startClaim kind since).inReset = s.inReset ∧
      (s.startClaim kind since).pending = s.pending := by
  unfold State.startClaim
  (repeat' split) <;> simp

/-- `State.takeReoffer` changes no block but clu, lbi. -/
@[simp] theorem State.takeReoffer_frame (s : State) (st : Stem) :
    (s.takeReoffer st).ptr = s.ptr ∧ (s.takeReoffer st).rct = s.rct ∧ (s.takeReoffer st).rol = s.rol ∧
      (s.takeReoffer st).drc = s.drc ∧ (s.takeReoffer st).crm = s.crm ∧
      (s.takeReoffer st).alc = s.alc ∧ (s.takeReoffer st).mdc = s.mdc ∧
      (s.takeReoffer st).inputs = s.inputs ∧ (s.takeReoffer st).now = s.now ∧
      (s.takeReoffer st).inReset = s.inReset ∧ (s.takeReoffer st).pending = s.pending := by
  unfold State.takeReoffer
  (repeat' split) <;> simp

/-! ## Frames of the station's own -/

/-- `State.startNotice` changes no block but lbi. -/
@[simp] theorem State.startNotice_frame (s : State) :
    (s.startNotice).ptr = s.ptr ∧ (s.startNotice).rct = s.rct ∧ (s.startNotice).clu = s.clu ∧
      (s.startNotice).rol = s.rol ∧ (s.startNotice).drc = s.drc ∧ (s.startNotice).crm = s.crm ∧
      (s.startNotice).alc = s.alc ∧ (s.startNotice).mdc = s.mdc ∧ (s.startNotice).inputs = s.inputs ∧
      (s.startNotice).now = s.now ∧ (s.startNotice).inReset = s.inReset ∧
      (s.startNotice).pending = s.pending := by
  unfold State.startNotice
  dsimp only
  (repeat' split) <;> simp

/-- `State.startReoffer` changes no block but rol, lbi. -/
@[simp] theorem State.startReoffer_frame (s : State) :
    (s.startReoffer).ptr = s.ptr ∧ (s.startReoffer).rct = s.rct ∧ (s.startReoffer).clu = s.clu ∧
      (s.startReoffer).drc = s.drc ∧ (s.startReoffer).crm = s.crm ∧ (s.startReoffer).alc = s.alc ∧
      (s.startReoffer).mdc = s.mdc ∧ (s.startReoffer).inputs = s.inputs ∧
      (s.startReoffer).now = s.now ∧ (s.startReoffer).inReset = s.inReset ∧
      (s.startReoffer).pending = s.pending := by
  unfold State.startReoffer
  (repeat' split) <;> simp

/-- `State.reofferSend` changes no block but rol, lbi. -/
@[simp] theorem State.reofferSend_frame (s : State) :
    (s.reofferSend).ptr = s.ptr ∧ (s.reofferSend).rct = s.rct ∧ (s.reofferSend).clu = s.clu ∧
      (s.reofferSend).drc = s.drc ∧ (s.reofferSend).crm = s.crm ∧ (s.reofferSend).alc = s.alc ∧
      (s.reofferSend).mdc = s.mdc ∧ (s.reofferSend).inputs = s.inputs ∧ (s.reofferSend).now = s.now ∧
      (s.reofferSend).inReset = s.inReset ∧ (s.reofferSend).pending = s.pending := by
  unfold State.reofferSend
  (repeat' split) <;> simp

/-- `State.reofferLeaves` changes no block but clu, rol, lbi. -/
@[simp] theorem State.reofferLeaves_frame (s : State) :
    (s.reofferLeaves).ptr = s.ptr ∧ (s.reofferLeaves).rct = s.rct ∧ (s.reofferLeaves).drc = s.drc ∧
      (s.reofferLeaves).crm = s.crm ∧ (s.reofferLeaves).alc = s.alc ∧ (s.reofferLeaves).mdc = s.mdc ∧
      (s.reofferLeaves).inputs = s.inputs ∧ (s.reofferLeaves).now = s.now ∧
      (s.reofferLeaves).inReset = s.inReset ∧ (s.reofferLeaves).pending = s.pending := by
  simp [State.reofferLeaves]

/-- `State.reofferSent` changes no block but clu, rol, lbi. -/
@[simp] theorem State.reofferSent_frame (s : State) :
    (s.reofferSent).ptr = s.ptr ∧ (s.reofferSent).rct = s.rct ∧ (s.reofferSent).drc = s.drc ∧
      (s.reofferSent).crm = s.crm ∧ (s.reofferSent).alc = s.alc ∧ (s.reofferSent).mdc = s.mdc ∧
      (s.reofferSent).inputs = s.inputs ∧ (s.reofferSent).now = s.now ∧
      (s.reofferSent).inReset = s.inReset ∧ (s.reofferSent).pending = s.pending := by
  unfold State.reofferSent
  (repeat' split) <;> simp

/-- `State.noticeSend` changes no block but rol, lbi. -/
@[simp] theorem State.noticeSend_frame (s : State) :
    (s.noticeSend).ptr = s.ptr ∧ (s.noticeSend).rct = s.rct ∧ (s.noticeSend).clu = s.clu ∧
      (s.noticeSend).drc = s.drc ∧ (s.noticeSend).crm = s.crm ∧ (s.noticeSend).alc = s.alc ∧
      (s.noticeSend).mdc = s.mdc ∧ (s.noticeSend).inputs = s.inputs ∧ (s.noticeSend).now = s.now ∧
      (s.noticeSend).inReset = s.inReset ∧ (s.noticeSend).pending = s.pending := by
  unfold State.noticeSend
  (repeat' split) <;> simp

/-- `State.clearLost` changes no block but lbi. -/
@[simp] theorem State.clearLost_frame (s : State) (f : Frame) :
    (s.clearLost f).ptr = s.ptr ∧ (s.clearLost f).rct = s.rct ∧ (s.clearLost f).clu = s.clu ∧
      (s.clearLost f).rol = s.rol ∧ (s.clearLost f).drc = s.drc ∧ (s.clearLost f).crm = s.crm ∧
      (s.clearLost f).alc = s.alc ∧ (s.clearLost f).mdc = s.mdc ∧ (s.clearLost f).inputs = s.inputs ∧
      (s.clearLost f).now = s.now ∧ (s.clearLost f).inReset = s.inReset ∧
      (s.clearLost f).pending = s.pending := by
  unfold State.clearLost
  (repeat' split) <;> simp

/-- `State.noticeLeaves` changes no block but lbi. -/
@[simp] theorem State.noticeLeaves_frame (s : State) :
    (s.noticeLeaves).ptr = s.ptr ∧ (s.noticeLeaves).rct = s.rct ∧ (s.noticeLeaves).clu = s.clu ∧
      (s.noticeLeaves).rol = s.rol ∧ (s.noticeLeaves).drc = s.drc ∧ (s.noticeLeaves).crm = s.crm ∧
      (s.noticeLeaves).alc = s.alc ∧ (s.noticeLeaves).mdc = s.mdc ∧
      (s.noticeLeaves).inputs = s.inputs ∧ (s.noticeLeaves).now = s.now ∧
      (s.noticeLeaves).inReset = s.inReset ∧ (s.noticeLeaves).pending = s.pending := by
  unfold State.noticeLeaves
  (repeat' split) <;> simp

/-- `State.startJoinTimer` changes no block but mdc. -/
@[simp] theorem State.startJoinTimer_frame (s : State) (f : Frame) :
    (s.startJoinTimer f).ptr = s.ptr ∧ (s.startJoinTimer f).rct = s.rct ∧
      (s.startJoinTimer f).clu = s.clu ∧ (s.startJoinTimer f).rol = s.rol ∧
      (s.startJoinTimer f).drc = s.drc ∧ (s.startJoinTimer f).crm = s.crm ∧
      (s.startJoinTimer f).alc = s.alc ∧ (s.startJoinTimer f).lbi = s.lbi ∧
      (s.startJoinTimer f).inputs = s.inputs ∧ (s.startJoinTimer f).now = s.now ∧
      (s.startJoinTimer f).inReset = s.inReset ∧ (s.startJoinTimer f).pending = s.pending := by
  unfold State.startJoinTimer
  (repeat' split) <;> simp

/-- `State.noticeSent` changes no block but clu, lbi, mdc. -/
@[simp] theorem State.noticeSent_frame (s : State) :
    (s.noticeSent).ptr = s.ptr ∧ (s.noticeSent).rct = s.rct ∧ (s.noticeSent).rol = s.rol ∧
      (s.noticeSent).drc = s.drc ∧ (s.noticeSent).crm = s.crm ∧ (s.noticeSent).alc = s.alc ∧
      (s.noticeSent).inputs = s.inputs ∧ (s.noticeSent).now = s.now ∧
      (s.noticeSent).inReset = s.inReset ∧ (s.noticeSent).pending = s.pending := by
  unfold State.noticeSent
  (repeat' split) <;> simp

/-- `State.joinAll` changes no block but alc, lbi. -/
@[simp] theorem State.joinAll_frame (s : State) (l : List Notice) :
    (s.joinAll l).ptr = s.ptr ∧ (s.joinAll l).rct = s.rct ∧ (s.joinAll l).clu = s.clu ∧
      (s.joinAll l).rol = s.rol ∧ (s.joinAll l).drc = s.drc ∧ (s.joinAll l).crm = s.crm ∧
      (s.joinAll l).mdc = s.mdc ∧ (s.joinAll l).inputs = s.inputs ∧ (s.joinAll l).now = s.now ∧
      (s.joinAll l).inReset = s.inReset ∧ (s.joinAll l).pending = s.pending := by
  induction l generalizing s with
  | nil => simp [State.joinAll]
  | cons n l ih => simp [State.joinAll, ih]

/-- `State.respond` changes no block but alc, lbi. -/
@[simp] theorem State.respond_frame (s : State) (topic : Fin 16) :
    (s.respond topic).ptr = s.ptr ∧ (s.respond topic).rct = s.rct ∧ (s.respond topic).clu = s.clu ∧
      (s.respond topic).rol = s.rol ∧ (s.respond topic).drc = s.drc ∧ (s.respond topic).crm = s.crm ∧
      (s.respond topic).mdc = s.mdc ∧ (s.respond topic).inputs = s.inputs ∧
      (s.respond topic).now = s.now ∧ (s.respond topic).inReset = s.inReset ∧
      (s.respond topic).pending = s.pending := by
  unfold State.respond
  (repeat' split) <;> simp

/-- `State.queried` changes no block but alc, lbi. -/
@[simp] theorem State.queried_frame (s : State) (n : StationNo) (topic : Fin 16) :
    (s.queried n topic).ptr = s.ptr ∧ (s.queried n topic).rct = s.rct ∧
      (s.queried n topic).clu = s.clu ∧ (s.queried n topic).rol = s.rol ∧
      (s.queried n topic).drc = s.drc ∧ (s.queried n topic).crm = s.crm ∧
      (s.queried n topic).mdc = s.mdc ∧ (s.queried n topic).inputs = s.inputs ∧
      (s.queried n topic).now = s.now ∧ (s.queried n topic).inReset = s.inReset ∧
      (s.queried n topic).pending = s.pending := by
  unfold State.queried
  (repeat' split) <;> simp

/-! ## Cradles, beams and drops -/

/-- `State.cradlePlaced` changes no block but ptr, clu, rol, crm, alc, lbi, mdc. -/
@[simp] theorem State.cradlePlaced_frame (s : State) (c : Cradle) :
    (s.cradlePlaced c).rct = s.rct ∧ (s.cradlePlaced c).drc = s.drc ∧
      (s.cradlePlaced c).inputs = s.inputs ∧ (s.cradlePlaced c).now = s.now ∧
      (s.cradlePlaced c).inReset = s.inReset ∧ (s.cradlePlaced c).pending = s.pending := by
  unfold State.cradlePlaced
  (repeat' split) <;> simp

/-- `State.removeStale` changes no block but crm, alc, lbi. -/
@[simp] theorem State.removeStale_frame (s : State) (c : Cradle) :
    (s.removeStale c).ptr = s.ptr ∧ (s.removeStale c).rct = s.rct ∧ (s.removeStale c).clu = s.clu ∧
      (s.removeStale c).rol = s.rol ∧ (s.removeStale c).drc = s.drc ∧ (s.removeStale c).mdc = s.mdc ∧
      (s.removeStale c).inputs = s.inputs ∧ (s.removeStale c).now = s.now ∧
      (s.removeStale c).inReset = s.inReset ∧ (s.removeStale c).pending = s.pending := by
  unfold State.removeStale
  dsimp only
  (repeat' split) <;> simp

/-- `State.removeComplete` changes no block but crm. -/
@[simp] theorem State.removeComplete_frame (s : State) (c : Cradle) :
    (s.removeComplete c).ptr = s.ptr ∧ (s.removeComplete c).rct = s.rct ∧
      (s.removeComplete c).clu = s.clu ∧ (s.removeComplete c).rol = s.rol ∧
      (s.removeComplete c).drc = s.drc ∧ (s.removeComplete c).alc = s.alc ∧
      (s.removeComplete c).lbi = s.lbi ∧ (s.removeComplete c).mdc = s.mdc ∧
      (s.removeComplete c).inputs = s.inputs ∧ (s.removeComplete c).now = s.now ∧
      (s.removeComplete c).inReset = s.inReset ∧ (s.removeComplete c).pending = s.pending := by
  simp [State.removeComplete]

/-- `State.removePremature` changes no block but rct, clu, rol, drc, crm, alc, lbi, mdc. -/
@[simp] theorem State.removePremature_frame (s : State) (c : Cradle) :
    (s.removePremature c).ptr = s.ptr ∧ (s.removePremature c).inputs = s.inputs ∧
      (s.removePremature c).now = s.now ∧ (s.removePremature c).inReset = s.inReset ∧
      (s.removePremature c).pending = s.pending := by
  unfold State.removePremature
  dsimp only
  (repeat' split) <;> simp

/-- `State.cradleLifted` changes no block but ptr, rct, clu, rol, drc, crm, alc, lbi, mdc. -/
@[simp] theorem State.cradleLifted_frame (s : State) (c : Cradle) :
    (s.cradleLifted c).inputs = s.inputs ∧ (s.cradleLifted c).now = s.now ∧
      (s.cradleLifted c).inReset = s.inReset ∧ (s.cradleLifted c).pending = s.pending := by
  unfold State.cradleLifted
  (repeat' split) <;> simp

/-- `State.removalOverdue` changes no block but crm, alc, lbi, now. -/
@[simp] theorem State.removalOverdue_frame (s : State) (c : Cradle) :
    (s.removalOverdue c).ptr = s.ptr ∧ (s.removalOverdue c).rct = s.rct ∧
      (s.removalOverdue c).clu = s.clu ∧ (s.removalOverdue c).rol = s.rol ∧
      (s.removalOverdue c).drc = s.drc ∧ (s.removalOverdue c).mdc = s.mdc ∧
      (s.removalOverdue c).inputs = s.inputs ∧ (s.removalOverdue c).inReset = s.inReset ∧
      (s.removalOverdue c).pending = s.pending := by
  unfold State.removalOverdue
  dsimp only
  (repeat' split) <;> simp

/-- `State.judgeBreak` changes no block but rct, drc, crm, alc, lbi. -/
@[simp] theorem State.judgeBreak_frame (s : State) (c : Cradle) :
    (s.judgeBreak c).ptr = s.ptr ∧ (s.judgeBreak c).clu = s.clu ∧ (s.judgeBreak c).rol = s.rol ∧
      (s.judgeBreak c).mdc = s.mdc ∧ (s.judgeBreak c).inputs = s.inputs ∧
      (s.judgeBreak c).now = s.now ∧ (s.judgeBreak c).inReset = s.inReset ∧
      (s.judgeBreak c).pending = s.pending := by
  unfold State.judgeBreak
  dsimp only
  (repeat' split) <;> simp

/-- `State.beamBreaks` changes no block but ptr, rct, clu, rol, drc, crm, alc, lbi, mdc. -/
@[simp] theorem State.beamBreaks_frame (s : State) (c : Cradle) :
    (s.beamBreaks c).inputs = s.inputs ∧ (s.beamBreaks c).now = s.now ∧
      (s.beamBreaks c).inReset = s.inReset ∧ (s.beamBreaks c).pending = s.pending := by
  unfold State.beamBreaks
  (repeat' split) <;> simp

/-- `State.windowOpen` changes no block but drc, now. -/
@[simp] theorem State.windowOpen_frame (s : State) :
    (s.windowOpen).ptr = s.ptr ∧ (s.windowOpen).rct = s.rct ∧ (s.windowOpen).clu = s.clu ∧
      (s.windowOpen).rol = s.rol ∧ (s.windowOpen).crm = s.crm ∧ (s.windowOpen).alc = s.alc ∧
      (s.windowOpen).lbi = s.lbi ∧ (s.windowOpen).mdc = s.mdc ∧ (s.windowOpen).inputs = s.inputs ∧
      (s.windowOpen).inReset = s.inReset ∧ (s.windowOpen).pending = s.pending := by
  unfold State.windowOpen
  (repeat' split) <;> simp

/-- `State.countMiss` changes no block but ptr, rct, clu, rol, drc, crm, alc, lbi, mdc. -/
@[simp] theorem State.countMiss_frame (s : State) (c : Cradle) :
    (s.countMiss c).inputs = s.inputs ∧ (s.countMiss c).now = s.now ∧
      (s.countMiss c).inReset = s.inReset ∧ (s.countMiss c).pending = s.pending := by
  unfold State.countMiss
  dsimp only
  (repeat' split) <;> simp

/-- `State.missed` changes no block but ptr, rct, clu, rol, drc, crm, alc, lbi, mdc. -/
@[simp] theorem State.missed_frame (s : State) (f : Falling) (rest : List Falling) :
    (s.missed f rest).inputs = s.inputs ∧ (s.missed f rest).now = s.now ∧
      (s.missed f rest).inReset = s.inReset ∧ (s.missed f rest).pending = s.pending := by
  simp [State.missed]

/-- `State.miss` changes no block but ptr, rct, clu, rol, drc, crm, alc, lbi, mdc, now. -/
@[simp] theorem State.miss_frame (s : State) :
    (s.miss).inputs = s.inputs ∧ (s.miss).inReset = s.inReset ∧ (s.miss).pending = s.pending := by
  unfold State.miss
  (repeat' split) <;> simp

/-- `State.gatePulseEnd` changes no block but drc, now. -/
@[simp] theorem State.gatePulseEnd_frame (s : State) :
    (s.gatePulseEnd).ptr = s.ptr ∧ (s.gatePulseEnd).rct = s.rct ∧ (s.gatePulseEnd).clu = s.clu ∧
      (s.gatePulseEnd).rol = s.rol ∧ (s.gatePulseEnd).crm = s.crm ∧ (s.gatePulseEnd).alc = s.alc ∧
      (s.gatePulseEnd).lbi = s.lbi ∧ (s.gatePulseEnd).mdc = s.mdc ∧
      (s.gatePulseEnd).inputs = s.inputs ∧ (s.gatePulseEnd).inReset = s.inReset ∧
      (s.gatePulseEnd).pending = s.pending := by
  unfold State.gatePulseEnd
  (repeat' split) <;> simp

/-- `State.gateStuck` changes no block but ptr, rct, clu, rol, drc, crm, alc, lbi, mdc, now. -/
@[simp] theorem State.gateStuck_frame (s : State) (c : Cradle) :
    (s.gateStuck c).inputs = s.inputs ∧ (s.gateStuck c).inReset = s.inReset ∧
      (s.gateStuck c).pending = s.pending := by
  unfold State.gateStuck
  dsimp only
  (repeat' split) <;> simp

/-! ## Pulses and announcements -/

/-- `State.advance` changes no block but ptr. -/
@[simp] theorem State.advance_frame (s : State) (p : Tag) :
    (s.advance p).rct = s.rct ∧ (s.advance p).clu = s.clu ∧ (s.advance p).rol = s.rol ∧
      (s.advance p).drc = s.drc ∧ (s.advance p).crm = s.crm ∧ (s.advance p).alc = s.alc ∧
      (s.advance p).lbi = s.lbi ∧ (s.advance p).mdc = s.mdc ∧ (s.advance p).inputs = s.inputs ∧
      (s.advance p).now = s.now ∧ (s.advance p).inReset = s.inReset ∧ (s.advance p).pending = s.pending := by
  simp [State.advance]

/-- `State.passClaim` changes no block but rct, clu, rol, drc, crm, alc, lbi, mdc. -/
@[simp] theorem State.passClaim_frame (s : State) (e : Claim) (rest : List Claim) :
    (s.passClaim e rest).ptr = s.ptr ∧ (s.passClaim e rest).inputs = s.inputs ∧
      (s.passClaim e rest).now = s.now ∧ (s.passClaim e rest).inReset = s.inReset ∧
      (s.passClaim e rest).pending = s.pending := by
  simp [State.passClaim]

/-- `State.clearPassed` changes no block but rct, clu, rol, drc, crm, alc, lbi, mdc. -/
@[simp] theorem State.clearPassed_frame (s : State) (l : List Claim) :
    (s.clearPassed l).ptr = s.ptr ∧ (s.clearPassed l).inputs = s.inputs ∧
      (s.clearPassed l).now = s.now ∧ (s.clearPassed l).inReset = s.inReset ∧
      (s.clearPassed l).pending = s.pending := by
  induction l generalizing s with
  | nil => simp [State.clearPassed]
  | cons e l ih =>
    unfold State.clearPassed
    split <;> simp [ih]

/-- `State.fire` changes no block but rct, clu, rol, drc, crm, alc, lbi, mdc. -/
@[simp] theorem State.fire_frame (s : State) (e : Claim) (rest : List Claim) :
    (s.fire e rest).ptr = s.ptr ∧ (s.fire e rest).inputs = s.inputs ∧ (s.fire e rest).now = s.now ∧
      (s.fire e rest).inReset = s.inReset ∧ (s.fire e rest).pending = s.pending := by
  unfold State.fire
  dsimp only
  (repeat' split) <;> simp

/-- `State.arrival` changes no block but rct, clu, rol, drc, crm, alc, lbi, mdc. -/
@[simp] theorem State.arrival_frame (s : State) :
    (s.arrival).ptr = s.ptr ∧ (s.arrival).inputs = s.inputs ∧ (s.arrival).now = s.now ∧
      (s.arrival).inReset = s.inReset ∧ (s.arrival).pending = s.pending := by
  unfold State.arrival
  dsimp only
  (repeat' split) <;> simp

/-- `State.countCoast` changes no block but ptr, alc, lbi. -/
@[simp] theorem State.countCoast_frame (s : State) :
    (s.countCoast).rct = s.rct ∧ (s.countCoast).clu = s.clu ∧ (s.countCoast).rol = s.rol ∧
      (s.countCoast).drc = s.drc ∧ (s.countCoast).crm = s.crm ∧ (s.countCoast).mdc = s.mdc ∧
      (s.countCoast).inputs = s.inputs ∧ (s.countCoast).now = s.now ∧
      (s.countCoast).inReset = s.inReset ∧ (s.countCoast).pending = s.pending := by
  unfold State.countCoast
  dsimp only
  (repeat' split) <;> simp

/-- `State.expectAnnounce` changes no block but ptr, clu, alc, lbi. -/
@[simp] theorem State.expectAnnounce_frame (s : State) :
    (s.expectAnnounce).rct = s.rct ∧ (s.expectAnnounce).rol = s.rol ∧ (s.expectAnnounce).drc = s.drc ∧
      (s.expectAnnounce).crm = s.crm ∧ (s.expectAnnounce).mdc = s.mdc ∧
      (s.expectAnnounce).inputs = s.inputs ∧ (s.expectAnnounce).now = s.now ∧
      (s.expectAnnounce).inReset = s.inReset ∧ (s.expectAnnounce).pending = s.pending := by
  unfold State.expectAnnounce
  dsimp only
  (repeat' split) <;> simp

/-- `State.forwardPulse` changes no block but ptr, rct, clu, rol, drc, crm, alc, lbi, mdc. -/
@[simp] theorem State.forwardPulse_frame (s : State) :
    (s.forwardPulse).inputs = s.inputs ∧ (s.forwardPulse).now = s.now ∧
      (s.forwardPulse).inReset = s.inReset ∧ (s.forwardPulse).pending = s.pending := by
  unfold State.forwardPulse
  dsimp only
  (repeat' split) <;> simp

/-- `State.resync` changes no block but ptr, alc, lbi. -/
@[simp] theorem State.resync_frame (s : State) (t : Tag) :
    (s.resync t).rct = s.rct ∧ (s.resync t).clu = s.clu ∧ (s.resync t).rol = s.rol ∧
      (s.resync t).drc = s.drc ∧ (s.resync t).crm = s.crm ∧ (s.resync t).mdc = s.mdc ∧
      (s.resync t).inputs = s.inputs ∧ (s.resync t).now = s.now ∧ (s.resync t).inReset = s.inReset ∧
      (s.resync t).pending = s.pending := by
  unfold State.resync
  (repeat' split) <;> simp

/-- `State.announced` changes no block but ptr, alc, lbi. -/
@[simp] theorem State.announced_frame (s : State) :
    (s.announced).rct = s.rct ∧ (s.announced).clu = s.clu ∧ (s.announced).rol = s.rol ∧
      (s.announced).drc = s.drc ∧ (s.announced).crm = s.crm ∧ (s.announced).mdc = s.mdc ∧
      (s.announced).inputs = s.inputs ∧ (s.announced).now = s.now ∧ (s.announced).inReset = s.inReset ∧
      (s.announced).pending = s.pending := by
  unfold State.announced
  dsimp only
  (repeat' split) <;> simp

/-- `State.trackAnnounce` changes no block but ptr, clu, alc, lbi. -/
@[simp] theorem State.trackAnnounce_frame (s : State) (st : Stem) :
    (s.trackAnnounce st).rct = s.rct ∧ (s.trackAnnounce st).rol = s.rol ∧
      (s.trackAnnounce st).drc = s.drc ∧ (s.trackAnnounce st).crm = s.crm ∧
      (s.trackAnnounce st).mdc = s.mdc ∧ (s.trackAnnounce st).inputs = s.inputs ∧
      (s.trackAnnounce st).now = s.now ∧ (s.trackAnnounce st).inReset = s.inReset ∧
      (s.trackAnnounce st).pending = s.pending := by
  unfold State.trackAnnounce
  dsimp only
  (repeat' split) <;> simp

/-- `State.announce` changes no block but ptr, clu, alc, lbi. -/
@[simp] theorem State.announce_frame (s : State) (st : Stem) :
    (s.announce st).rct = s.rct ∧ (s.announce st).rol = s.rol ∧ (s.announce st).drc = s.drc ∧
      (s.announce st).crm = s.crm ∧ (s.announce st).mdc = s.mdc ∧ (s.announce st).inputs = s.inputs ∧
      (s.announce st).now = s.now ∧ (s.announce st).inReset = s.inReset ∧
      (s.announce st).pending = s.pending := by
  simp [State.announce]

/-- `State.announcePendingEnd` changes no block but ptr, alc, lbi, now. -/
@[simp] theorem State.announcePendingEnd_frame (s : State) :
    (s.announcePendingEnd).rct = s.rct ∧ (s.announcePendingEnd).clu = s.clu ∧
      (s.announcePendingEnd).rol = s.rol ∧ (s.announcePendingEnd).drc = s.drc ∧
      (s.announcePendingEnd).crm = s.crm ∧ (s.announcePendingEnd).mdc = s.mdc ∧
      (s.announcePendingEnd).inputs = s.inputs ∧ (s.announcePendingEnd).inReset = s.inReset ∧
      (s.announcePendingEnd).pending = s.pending := by
  unfold State.announcePendingEnd
  (repeat' split) <;> simp

/-! ## The profile, the join timer and the panel -/

/-- `State.refuseProfile` changes no block but ptr, rct, clu, rol, drc, crm, alc, lbi, mdc. -/
@[simp] theorem State.refuseProfile_frame (s : State) (param : Nat) :
    (s.refuseProfile param).inputs = s.inputs ∧ (s.refuseProfile param).now = s.now ∧
      (s.refuseProfile param).inReset = s.inReset ∧ (s.refuseProfile param).pending = s.pending := by
  simp [State.refuseProfile]

/-- `State.enterJoining` changes no block but clu, rol, alc, lbi, mdc. -/
@[simp] theorem State.enterJoining_frame (s : State) :
    (s.enterJoining).ptr = s.ptr ∧ (s.enterJoining).rct = s.rct ∧ (s.enterJoining).drc = s.drc ∧
      (s.enterJoining).crm = s.crm ∧ (s.enterJoining).inputs = s.inputs ∧
      (s.enterJoining).now = s.now ∧ (s.enterJoining).inReset = s.inReset ∧
      (s.enterJoining).pending = s.pending := by
  unfold State.enterJoining
  (repeat' split) <;> simp

/-- `State.acceptProfile` changes no block but ptr, rct, clu, rol, crm, alc, lbi, mdc. -/
@[simp] theorem State.acceptProfile_frame (s : State) (img : List Byte) :
    (s.acceptProfile img).drc = s.drc ∧ (s.acceptProfile img).inputs = s.inputs ∧
      (s.acceptProfile img).now = s.now ∧ (s.acceptProfile img).inReset = s.inReset ∧
      (s.acceptProfile img).pending = s.pending := by
  simp [State.acceptProfile]

/-- `State.profileReadEnd` changes no block but ptr, rct, clu, rol, drc, crm, alc, lbi, mdc. -/
@[simp] theorem State.profileReadEnd_frame (s : State) (memory : SerialMemory) :
    (s.profileReadEnd memory).inputs = s.inputs ∧ (s.profileReadEnd memory).now = s.now ∧
      (s.profileReadEnd memory).inReset = s.inReset ∧ (s.profileReadEnd memory).pending = s.pending := by
  unfold State.profileReadEnd
  (repeat' split) <;> simp

/-- `State.joinTimerEnd` changes no block but ptr, clu, rol, crm, alc, lbi, mdc, now. -/
@[simp] theorem State.joinTimerEnd_frame (s : State) :
    (s.joinTimerEnd).rct = s.rct ∧ (s.joinTimerEnd).drc = s.drc ∧ (s.joinTimerEnd).inputs = s.inputs ∧
      (s.joinTimerEnd).inReset = s.inReset ∧ (s.joinTimerEnd).pending = s.pending := by
  unfold State.joinTimerEnd
  dsimp only
  (repeat' split) <;> simp

/-- `State.joinHeard` changes no block but ptr, rct, clu, rol, drc, crm, alc, lbi, mdc. -/
@[simp] theorem State.joinHeard_frame (s : State) (n : StationNo) :
    (s.joinHeard n).inputs = s.inputs ∧ (s.joinHeard n).now = s.now ∧
      (s.joinHeard n).inReset = s.inReset ∧ (s.joinHeard n).pending = s.pending := by
  unfold State.joinHeard
  (repeat' split) <;> simp

/-- `State.conflictHeard` changes no block but ptr, rct, clu, rol, drc, crm, alc, lbi, mdc. -/
@[simp] theorem State.conflictHeard_frame (s : State) (n : StationNo) :
    (s.conflictHeard n).inputs = s.inputs ∧ (s.conflictHeard n).now = s.now ∧
      (s.conflictHeard n).inReset = s.inReset ∧ (s.conflictHeard n).pending = s.pending := by
  unfold State.conflictHeard
  (repeat' split) <;> simp

/-- `State.pull` changes no block but ptr, rct, clu, rol, crm, alc, lbi, mdc. -/
@[simp] theorem State.pull_frame (s : State) (c : Cradle) :
    (s.pull c).drc = s.drc ∧ (s.pull c).inputs = s.inputs ∧ (s.pull c).now = s.now ∧
      (s.pull c).inReset = s.inReset ∧ (s.pull c).pending = s.pending := by
  unfold State.pull
  (repeat' split) <;> simp

/-- `State.closeShort` changes no block but rct, rol, drc, crm, alc, lbi. -/
@[simp] theorem State.closeShort_frame (s : State) (c : Cradle) :
    (s.closeShort c).ptr = s.ptr ∧ (s.closeShort c).clu = s.clu ∧ (s.closeShort c).mdc = s.mdc ∧
      (s.closeShort c).inputs = s.inputs ∧ (s.closeShort c).now = s.now ∧
      (s.closeShort c).inReset = s.inReset ∧ (s.closeShort c).pending = s.pending := by
  simp [State.closeShort]

/-- `State.finish` changes no block but ptr, rct, clu, rol, drc, crm, alc, lbi, mdc. -/
@[simp] theorem State.finish_frame (s : State) (c : Cradle) (key : Bool) :
    (s.finish c key).inputs = s.inputs ∧ (s.finish c key).now = s.now ∧
      (s.finish c key).inReset = s.inReset ∧ (s.finish c key).pending = s.pending := by
  unfold State.finish
  (repeat' split) <;> simp

/-- `State.clear` changes no block but ptr, clu, rol, drc, crm, alc, lbi, mdc. -/
@[simp] theorem State.clear_frame (s : State) (key : Bool) :
    (s.clear key).rct = s.rct ∧ (s.clear key).inputs = s.inputs ∧ (s.clear key).now = s.now ∧
      (s.clear key).inReset = s.inReset ∧ (s.clear key).pending = s.pending := by
  unfold State.clear
  (repeat' split) <;> simp

/-- `State.drain` changes no block but ptr, clu, rol, crm, alc, lbi, mdc. -/
@[simp] theorem State.drain_frame (s : State) :
    (s.drain).rct = s.rct ∧ (s.drain).drc = s.drc ∧ (s.drain).inputs = s.inputs ∧
      (s.drain).now = s.now ∧ (s.drain).inReset = s.inReset ∧ (s.drain).pending = s.pending := by
  unfold State.drain
  (repeat' split) <;> simp

/-- `State.resume` changes no block but ptr, clu, rol, crm, alc, lbi, mdc. -/
@[simp] theorem State.resume_frame (s : State) :
    (s.resume).rct = s.rct ∧ (s.resume).drc = s.drc ∧ (s.resume).inputs = s.inputs ∧
      (s.resume).now = s.now ∧ (s.resume).inReset = s.inReset ∧ (s.resume).pending = s.pending := by
  unfold State.resume
  (repeat' split) <;> simp

/-- `State.refusePulseEnd` changes no block but alc, now. -/
@[simp] theorem State.refusePulseEnd_frame (s : State) :
    (s.refusePulseEnd).ptr = s.ptr ∧ (s.refusePulseEnd).rct = s.rct ∧ (s.refusePulseEnd).clu = s.clu ∧
      (s.refusePulseEnd).rol = s.rol ∧ (s.refusePulseEnd).drc = s.drc ∧
      (s.refusePulseEnd).crm = s.crm ∧ (s.refusePulseEnd).lbi = s.lbi ∧
      (s.refusePulseEnd).mdc = s.mdc ∧ (s.refusePulseEnd).inputs = s.inputs ∧
      (s.refusePulseEnd).inReset = s.inReset ∧ (s.refusePulseEnd).pending = s.pending := by
  unfold State.refusePulseEnd
  (repeat' split) <;> simp

end Sys2Proof.Machine
end

section
/-! The tracker and the conditions through the shared operations (R1, R13, R14, R78, R162, R163, R182): what every
operation keeps, and what the tests at the end of an event bring about whatever they find. -/

namespace Sys2Proof.Machine

/-- What `TrackerAgrees` says but for the two tests made at the end of an event. -/
structure TrackerKept (s : State) : Prop where
  tags : s.ptr.h.isSome = s.ptr.p.isSome
  awaited : s.ptr.announceExpected = true → s.lbi.announcePending.isSome = true
  holdRead : s.inReset = false → s.ptr.holdRead = (s.holdDrive || s.ptr.holdOthers)
  holdBlocked : s.inReset = false →
    s.ptr.holdBlocked = (s.crm.blocked && s.policy (·.holdWhenBlocked))
  reading : s.mdc.profileRead = .reading →
    s.mdc.mode = .start ∨ s.mdc.mode = .stopped ∧ s.alc.savedMode = some .start
  unannounced : s.ptr.unannounced ≤ 255
  coast : s.ptr.coast ≤ 4095
  missRun : s.drc.missRun ≤ 255
  pins : ∀ p ∈ Pin.all, (s.qualifier p).inRange p

/-- The tests at the end of an event have been made: BLOCKED is as R78 says, and no mode waits for IDLE. -/
structure Tested (s : State) : Prop where
  blocked : s.crm.blocked = s.blockedNow
  idle : s.idleNow = false

theorem trackerAgrees_iff (s : State) : TrackerAgrees s ↔ TrackerKept s ∧ Tested s := by
  constructor
  · rintro ⟨tags, awaited, holdRead, holdBlocked, blocked, idle, reading, unannounced, coast, missRun, pins⟩
    exact ⟨⟨tags, awaited, holdRead, holdBlocked, reading, unannounced, coast, missRun, pins⟩,
      ⟨blocked, idle⟩⟩
  · rintro ⟨⟨tags, awaited, holdRead, holdBlocked, reading, unannounced, coast, missRun, pins⟩,
      ⟨blocked, idle⟩⟩
    exact ⟨tags, awaited, holdRead, holdBlocked, blocked, idle, reading, unannounced, coast, missRun, pins⟩

/-! ## Other blocks -/

/-- The tracker reads no more than this of the other blocks. -/
theorem TrackerKept.of_same {s t : State} (h : TrackerKept s) (ptr : t.ptr = s.ptr)
    (awaited : t.lbi.announcePending = s.lbi.announcePending) (inReset : t.inReset = s.inReset)
    (blocked : t.crm.blocked = s.crm.blocked) (mdc : t.mdc = s.mdc)
    (savedMode : t.alc.savedMode = s.alc.savedMode) (missRun : t.drc.missRun = s.drc.missRun)
    (inputs : t.inputs = s.inputs) : TrackerKept t where
  tags := by rw [ptr, h.tags]
  awaited := by rw [ptr, awaited]; exact h.awaited
  holdRead := by rw [inReset, State.holdDrive_congr ptr, ptr]; exact h.holdRead
  holdBlocked := by rw [inReset, ptr, blocked, State.policy_congr _ mdc]; exact h.holdBlocked
  reading := by rw [mdc, savedMode]; exact h.reading
  unannounced := by rw [ptr]; exact h.unannounced
  coast := by rw [ptr]; exact h.coast
  missRun := by rw [missRun]; exact h.missRun
  pins := by simpa only [State.qualifier_congr _ inputs] using h.pins

/-- The tests read the states of the cradles, the mode and the recipes. -/
theorem Tested.of_same {s t : State} (h : Tested s) (blocked : t.crm.blocked = s.crm.blocked)
    (a : t.crm.cradleA.state = s.crm.cradleA.state) (b : t.crm.cradleB.state = s.crm.cradleB.state)
    (mode : t.mdc.mode = s.mdc.mode) (rct : t.rct = s.rct) : Tested t where
  blocked := by
    rw [blocked, h.blocked]
    simp [State.blockedNow, CradleRec.available, a, b, mode]
  idle := by
    rw [← h.idle]
    simp [State.idleNow, State.someBuilding, CradleRec.building, a, b, mode, rct]

/-- The notice and level-1 operations keep the tracker. -/
theorem TrackerKept.raise1 {s : State} (h : TrackerKept s) (c : Cause) (param : BitVec 12) :
    TrackerKept (s.raise1 c param) :=
  h.of_same (by simp) (s.raise1_grows c param).frame.2.2.2.2.1 (by simp) (by simp) (by simp) (by simp)
    (by simp) (by simp)

theorem TrackerKept.joinNotice {s : State} (h : TrackerKept s) (n : Notice) :
    TrackerKept (s.joinNotice n) :=
  h.of_same (by simp) (s.joinNotice_grows n).frame.2.2.2.2.1 (by simp) (by simp) (by simp) (by simp)
    (by simp) (by simp)

theorem TrackerKept.queueAlert {s : State} (h : TrackerKept s) : TrackerKept s.queueAlert :=
  h.of_same (by simp) s.queueAlert_grows.frame.2.2.2.2.1 (by simp) (by simp) (by simp) (by simp)
    (by simp) (by simp)

theorem TrackerKept.endCondition {s : State} (h : TrackerKept s) (c : Cause) :
    TrackerKept (s.endCondition c) :=
  h.of_same (by simp) (s.endCondition_grows c).frame.2.2.2.2.1 (by simp) (by simp) (by simp) (by simp)
    (by simp) (by simp)

/-! ## Cradles and claims -/

theorem State.afterLoss_blocked (s : State) (c : Cradle) :
    (s.afterLoss c).crm.blocked = s.crm.blocked := (s.afterLoss_cradle c).2.2

theorem State.complete_blocked (s : State) (c : Cradle) (how : Completion) :
    (s.complete c how).crm.blocked = s.crm.blocked := by
  unfold State.complete
  dsimp only
  split <;> simp

theorem State.land_blocked (s : State) (e : Claim) (verified : Bool) :
    (s.land e verified).crm.blocked = s.crm.blocked := by
  unfold State.land
  dsimp only
  (repeat' split) <;> simp [State.complete_blocked]

theorem State.completionReport_grows (s : State) (i : Nat) :
    s.lbi.NoticesGrow (s.completionReport i).lbi := by
  unfold State.completionReport
  split
  · exact .refl _
  · dsimp only
    split
    · simpa using State.joinNotice_grows (s.onRecipe i _) _
    · simpa using LineBus.NoticesGrow.refl s.lbi

theorem State.complete_grows (s : State) (c : Cradle) (how : Completion) :
    s.lbi.NoticesGrow (s.complete c how).lbi := by
  unfold State.complete
  dsimp only
  split
  · simpa using State.joinNotice_grows (s.setCradle c _) _
  · rename_i i _
    have report := State.completionReport_grows
      (s.setCradle c { s.cradle c with state := .complete, completion := some how }) i
    simp only [State.setCradle_frame] at report ⊢
    exact report.trans (State.joinNotice_grows _ _)

theorem State.land_grows (s : State) (e : Claim) (verified : Bool) :
    s.lbi.NoticesGrow (s.land e verified).lbi := by
  unfold State.land
  dsimp only
  split
  · simpa using LineBus.NoticesGrow.refl s.lbi
  · split
    · simpa using State.complete_grows (s.setCradle e.cradle _) e.cradle .full
    · simpa using LineBus.NoticesGrow.refl s.lbi

theorem State.complete_savedMode (s : State) (c : Cradle) (how : Completion) :
    (s.complete c how).alc.savedMode = s.alc.savedMode := by
  have report : ∀ (t : State) (i : Nat), (t.completionReport i).alc.savedMode = t.alc.savedMode := by
    intro t i
    unfold State.completionReport
    dsimp only
    (repeat' split) <;> simp
  unfold State.complete
  dsimp only
  split <;> simp [report]

theorem State.land_savedMode (s : State) (e : Claim) (verified : Bool) :
    (s.land e verified).alc.savedMode = s.alc.savedMode := by
  unfold State.land
  dsimp only
  (repeat' split) <;> simp [State.complete_savedMode]

theorem TrackerKept.setCradle {s : State} (h : TrackerKept s) (c : Cradle) (r : CradleRec) :
    TrackerKept (s.setCradle c r) :=
  h.of_same (by simp) (by simp) (by simp) (by simp) (by simp) (by simp) (by simp) (by simp)

theorem TrackerKept.setDrc {s : State} (h : TrackerKept s) {x : DropController}
    (missRun : x.missRun = s.drc.missRun) : TrackerKept (s.setDrc x) :=
  h.of_same rfl rfl rfl rfl rfl rfl missRun rfl

theorem TrackerKept.setLbi {s : State} (h : TrackerKept s) {x : LineBus}
    (awaited : x.announcePending = s.lbi.announcePending) : TrackerKept (s.setLbi x) :=
  h.of_same rfl awaited rfl rfl rfl rfl rfl rfl

theorem TrackerKept.afterLoss {s : State} (h : TrackerKept s) (c : Cradle) :
    TrackerKept (s.afterLoss c) :=
  h.of_same (by simp) (by simp) (by simp) (s.afterLoss_blocked c) (by simp) (by simp) (by simp) (by simp)

theorem TrackerKept.uncommit {s : State} (h : TrackerKept s) (c : Cradle) (n : Nat) :
    TrackerKept (s.uncommit c n) :=
  h.of_same (by simp) (by simp) (by simp) (s.uncommit_keeps c n).2.2.2.2.2 (by simp) (by simp) (by simp)
    (by simp)

theorem TrackerKept.complete {s : State} (h : TrackerKept s) (c : Cradle) (how : Completion) :
    TrackerKept (s.complete c how) :=
  h.of_same (by simp) (s.complete_grows c how).frame.2.2.2.2.1 (by simp) (s.complete_blocked c how)
    (by simp) (s.complete_savedMode c how) (by simp) (by simp)

theorem TrackerKept.land {s : State} (h : TrackerKept s) (e : Claim) (verified : Bool) :
    TrackerKept (s.land e verified) :=
  h.of_same (by simp) (s.land_grows e verified).frame.2.2.2.2.1 (by simp) (s.land_blocked e verified)
    (by simp) (s.land_savedMode e verified) (by simp) (by simp)

theorem TrackerKept.reoffer {s : State} (h : TrackerKept s) (st : Stem) : TrackerKept (s.reoffer st) :=
  h.of_same (by simp) (by simp) (by simp) (by simp) (by simp) (by simp) (by simp) (by simp)

theorem TrackerKept.forfeitCradle {s : State} (h : TrackerKept s) (c : Cradle) :
    TrackerKept (s.forfeitCradle c) :=
  h.of_same (by simp) (by simp) (by simp) (by simp) (by simp) (by simp) (by simp [State.forfeitCradle])
    (by simp)

theorem TrackerKept.discardFalling {s : State} (h : TrackerKept s) (c : Cradle) :
    TrackerKept (s.discardFalling c) :=
  h.of_same (by simp) (by simp) (by simp) (by simp) (by simp) (by simp) (by simp [State.discardFalling])
    (by simp)

theorem TrackerKept.onRecipe {s : State} (h : TrackerKept s) (i : Nat) (f : Recipe → Recipe) :
    TrackerKept (s.onRecipe i f) :=
  h.of_same (by simp) (by simp) (by simp) (by simp) (by simp) (by simp) (by simp) (by simp)

theorem TrackerKept.stopForfeit {s : State} (h : TrackerKept s) : TrackerKept s.stopForfeit := by
  have drained : TrackerKept ((s.setDrc { s.drc with claims := [], gateLock := true }).reofferAll
      (s.drc.claims.map (·.stem))) :=
    h.of_same (by simp) (by simp) (by simp) (by simp) (by simp) (by simp) (by simp) (by simp)
  exact (drained.uncommit _ _).uncommit _ _

/-! ## HOLD -/

/-- What follows from the hold reasons may change, so long as it agrees with them afterwards (R13, R14). -/
theorem TrackerKept.of_hold {s t : State} (h : TrackerKept s)
    (ptr : t.ptr = { s.ptr with
      holdBlocked := t.ptr.holdBlocked, holdStop := t.ptr.holdStop, holdOthers := t.ptr.holdOthers
      holdRead := t.ptr.holdRead, coast := t.ptr.coast })
    (coast : t.ptr.coast ≤ s.ptr.coast)
    (holdRead : t.inReset = false → t.ptr.holdRead = (t.holdDrive || t.ptr.holdOthers))
    (holdBlocked : t.inReset = false →
      t.ptr.holdBlocked = (t.crm.blocked && t.policy (·.holdWhenBlocked)))
    (awaited : t.lbi.announcePending = s.lbi.announcePending) (mdc : t.mdc = s.mdc)
    (savedMode : t.alc.savedMode = s.alc.savedMode) (missRun : t.drc.missRun = s.drc.missRun)
    (inputs : t.inputs = s.inputs) : TrackerKept t where
  tags := by rw [ptr]; exact h.tags
  awaited := by rw [ptr, awaited]; exact h.awaited
  holdRead := holdRead
  holdBlocked := holdBlocked
  reading := by rw [mdc, savedMode]; exact h.reading
  unannounced := by rw [ptr]; exact h.unannounced
  coast := coast.trans h.coast
  missRun := by rw [missRun]; exact h.missRun
  pins := by simpa only [State.qualifier_congr _ inputs] using h.pins

/-- HOLD reads what is put on it, and the coast count does not grow (R14). -/
theorem State.readHold_reads (s : State) :
    s.readHold.ptr.holdRead = (s.readHold.holdDrive || s.readHold.ptr.holdOthers) ∧
      s.readHold.ptr.coast ≤ s.ptr.coast := by
  rw [State.holdDrive, State.readHold_ptr]
  refine ⟨rfl, ?_⟩
  dsimp only
  split
  · exact Nat.le_refl _
  · exact Nat.zero_le _

theorem TrackerKept.setHoldStop {s : State} (h : TrackerKept s) (v : Bool) :
    TrackerKept (s.setHoldStop v) := by
  obtain ⟨reads, coast⟩ := (s.setPtr { s.ptr with holdStop := v }).readHold_reads
  refine h.of_hold ?_ coast (fun _ => reads) ?_ (by simp) (by simp) (by simp) (by simp) (by simp)
  · rw [(s.setHold_ptr v).2]
  · rw [(s.setHold_ptr v).2, State.policy_congr (s := s) _ (by simp)]
    simpa using h.holdBlocked

/-- BLOCKED worked out again takes its hold reason with it (R13, R78). -/
theorem TrackerKept.reviewBlocked {s : State} (h : TrackerKept s) : TrackerKept s.reviewBlocked := by
  have pending : s.reviewBlocked.lbi.announcePending = s.lbi.announcePending :=
    s.reviewBlocked_grows.frame.2.2.2.2.1
  have crm := s.reviewBlocked_crm
  have policy : s.reviewBlocked.policy (·.holdWhenBlocked) = s.policy (·.holdWhenBlocked) :=
    State.policy_congr _ (by simp)
  by_cases same : s.blockedNow = s.crm.blocked
  · rwa [State.reviewBlocked, if_pos same]
  · refine h.of_hold ?ptr ?coast (fun _ => ?reads) (fun _ => ?blocked) pending (by simp) (by simp) (by simp)
      (by simp)
    case ptr => rw [State.reviewBlocked_ptr]
    case blocked =>
      rw [crm, policy]
      unfold State.reviewBlocked
      rw [if_neg same]
      split
      · rename_i now
        rw [(State.setHold_ptr _ _).1, now, Bool.true_and]
      · rename_i now
        rw [(State.setHold_ptr _ _).1, Bool.eq_false_iff.mpr now, Bool.false_and]
    all_goals
      unfold State.reviewBlocked
      rw [if_neg same]
    case coast => split <;> exact (State.readHold_reads _).2.trans (by simp)
    case reads => split <;> exact (State.readHold_reads _).1

/-! ## The mode -/

/-- A change of mode outside the profile read (R154). -/
theorem TrackerKept.changeMode {s : State} (h : TrackerKept s) {m : Mode}
    (reading : s.mdc.profileRead = .reading → m = .start ∨ m = .stopped ∧ s.alc.savedMode = some .start) :
    TrackerKept (s.changeMode m) where
  tags := by simpa using h.tags
  awaited := by
    have pending : (s.changeMode m).lbi.announcePending = s.lbi.announcePending := by
      cases bids : m.bids with
      | true => simp [State.changeMode_of_bids s bids]
      | false => rw [(s.changeMode_of_ends bids).2.2]
    rw [pending]
    simpa using h.awaited
  holdRead := by
    rw [State.holdDrive_congr (s := s) (by simp)]
    simpa using h.holdRead
  holdBlocked := by simpa [State.policy] using h.holdBlocked
  reading := by simpa using reading
  unannounced := by simpa using h.unannounced
  coast := by simpa using h.coast
  missRun := by simpa using h.missRun
  pins := by simpa only [State.qualifier_congr (s := s) _ (State.changeMode_frame s m).2.2.2.2.2.1] using h.pins

theorem TrackerKept.reviewIdle {s : State} (h : TrackerKept s) : TrackerKept s.reviewIdle := by
  cases idle : s.idleNow with
  | false => rwa [State.reviewIdle_of_not idle]
  | true =>
    rw [State.reviewIdle_of_idleNow idle]
    refine h.changeMode fun reading => ?_
    obtain active | draining := State.mode_of_idleNow idle
    · simpa [active] using h.reading reading
    · simpa [draining] using h.reading reading

theorem TrackerKept.settle {s : State} (h : TrackerKept s) : TrackerKept s.settle :=
  h.reviewIdle.reviewBlocked

theorem State.reviewBlocked_blocked (s : State) :
    s.reviewBlocked.crm.blocked = s.reviewBlocked.blockedNow := by
  simp [State.reviewBlocked_crm, State.blockedNow]

theorem State.reviewBlocked_idleNow (s : State) : s.reviewBlocked.idleNow = s.idleNow := by
  simp [State.reviewBlocked_crm, State.idleNow, State.someBuilding]

/-- The tests at the end of an event hold after it, whatever it found (R78, R162, R163). -/
theorem tested_settle (s : State) : Tested s.settle := by
  refine ⟨State.reviewBlocked_blocked _, ?_⟩
  rw [State.settle, State.reviewBlocked_idleNow]
  cases idle : s.idleNow with
  | false => rwa [State.reviewIdle_of_not idle]
  | true =>
    rw [State.reviewIdle_of_idleNow idle]
    simp [State.idleNow]

theorem trackerAgrees_settle {s : State} (h : TrackerKept s) : TrackerAgrees s.settle :=
  (trackerAgrees_iff _).mpr ⟨h.settle, tested_settle s⟩

/-! ## STOP -/

theorem TrackerKept.setAlc {s : State} (h : TrackerKept s) {x : AlertController}
    (savedMode : x.savedMode = s.alc.savedMode) : TrackerKept (s.setAlc x) :=
  h.of_same rfl rfl rfl rfl rfl savedMode rfl rfl

/-- The mode is saved at the entry to STOP (R121). -/
def State.saveMode (s : State) : State := s.setAlc { s.alc with savedMode := some s.mdc.mode }

/-- The level-2 cause becomes current, and its ALERT waits (R121, R133). -/
def State.recordStop (s : State) (c : Cause) (param : BitVec 12) : State :=
  (s.setAlc { s.alc with saved := s.alc.current, current := some ⟨c, param, s.stamp⟩ }).queueAlert

/-- The hold reason STOP follows the policy (R13, R121). -/
def State.holdForStop (s : State) : State := if s.policy (·.holdOnStop) then s.setHoldStop true else s

/-- The entry to STOP step by step (R121). -/
theorem State.enterStop_eq (s : State) (c : Cause) (param : BitVec 12) :
    s.enterStop c param =
      ((((s.recordStop c param).saveMode.changeMode .stopped).stopForfeit).holdForStop).reviewBlocked :=
  rfl

/-- The record that follows at the end of STOP: the saved one, or the lowest level-1 code (R123). -/
def AlertController.resume (x : AlertController) : AlertController :=
  match x.saved with
  | some r => { x with current := some r, saved := none }
  | none => x.retire

/-- The mode returns at the end of STOP (R124). -/
def State.returnMode (s : State) : State := s.changeMode (s.alc.savedMode.getD s.mdc.mode)

/-- No mode is saved any more at the end of STOP (R124). -/
def State.forgetMode (s : State) : State := s.setAlc { s.alc with savedMode := none }

/-- The gate and the hold reason STOP at the end of STOP (R124). -/
def State.unlock (s : State) : State :=
  (s.setDrc { s.drc with gateLock := false, missRun := 0 }).setHoldStop false

/-- The end of STOP step by step (R123, R124). -/
theorem State.endStop_eq (s : State) :
    s.endStop = (s.setAlc s.alc.resume).queueAlert.returnMode.forgetMode.settle.unlock := by
  unfold State.endStop AlertController.resume
  cases h : s.alc.saved <;> rfl

theorem TrackerKept.recordStop {s : State} (h : TrackerKept s) (c : Cause) (param : BitVec 12) :
    TrackerKept (s.recordStop c param) :=
  (h.setAlc (x := { s.alc with saved := s.alc.current, current := some ⟨c, param, s.stamp⟩ })
    rfl).queueAlert

theorem TrackerKept.holdForStop {s : State} (h : TrackerKept s) : TrackerKept s.holdForStop := by
  unfold State.holdForStop
  split
  · exact h.setHoldStop true
  · exact h

/-- Outside STOPPED the profile read finds the mode START, whatever mode is saved (R154). -/
theorem TrackerKept.saveMode {s : State} (h : TrackerKept s) (moving : s.mdc.mode ≠ .stopped) :
    TrackerKept s.saveMode :=
  { h with
    reading := fun reading => .inl ((h.reading reading).resolve_right fun e => moving e.1) }

@[simp] theorem State.recordStop_mdc (s : State) (c : Cause) (param : BitVec 12) :
    (s.recordStop c param).mdc = s.mdc := by simp [State.recordStop]

@[simp] theorem State.saveMode_frame (s : State) :
    s.saveMode.mdc = s.mdc ∧ s.saveMode.alc.savedMode = some s.mdc.mode := ⟨rfl, rfl⟩

/-- Entering STOP from another mode saves the mode the profile read found (R121). -/
theorem TrackerKept.enterStop {s : State} (h : TrackerKept s) (c : Cause) (param : BitVec 12)
    (moving : s.mdc.mode ≠ .stopped) : TrackerAgrees (s.enterStop c param) := by
  have saved : TrackerKept (s.recordStop c param).saveMode :=
    (h.recordStop c param).saveMode (by simpa using moving)
  have stopped : TrackerKept ((s.recordStop c param).saveMode.changeMode .stopped) := by
    refine saved.changeMode fun reading => .inr ⟨rfl, ?_⟩
    have start := (h.reading (by simpa using reading)).resolve_right fun e => moving e.1
    simp [start]
  refine (trackerAgrees_iff _).mpr ⟨?_, ?_, ?_⟩
  · rw [State.enterStop_eq]
    exact stopped.stopForfeit.holdForStop.reviewBlocked
  · exact State.reviewBlocked_blocked _
  · rw [State.idleNow, (State.enterStop_does s c param).1]
    simp

/-- A level-2 cause enters STOP, or waits and leaves the tracker (R121, R122). -/
theorem TrackerKept.raise2 {s : State} (h : TrackerKept s) (c : Cause) (param : BitVec 12)
    (stopped : s.mdc.mode = .stopped → s.level = .stop) (tested : s.level = .stop → Tested s) :
    TrackerAgrees (s.raise2 c param) := by
  by_cases level : s.level = .stop
  · rw [State.raise2_in_stop c param level]
    exact (trackerAgrees_iff _).mpr ⟨h.setAlc rfl, (tested level).of_same rfl rfl rfl rfl rfl⟩
  · rw [State.raise2_of_not_stop c param level]
    exact h.enterStop c param fun mode => level (stopped mode)

theorem AlertController.resume_frame (x : AlertController) :
    x.resume.pend2 = x.pend2 ∧ x.resume.savedMode = x.savedMode ∧ x.resume.refuse = x.refuse ∧
      x.resume.saved = none := by
  unfold AlertController.resume AlertController.retire
  split
  · exact ⟨rfl, rfl, rfl, rfl⟩
  · rename_i none
    exact ⟨rfl, rfl, rfl, none⟩

/-- The gate unlocked and the hold reason taken back leave what the tests read (R124). -/
theorem TrackerKept.unlock {s : State} (h : TrackerKept s) (tested : Tested s) : TrackerAgrees s.unlock := by
  have drops : TrackerKept (s.setDrc { s.drc with gateLock := false, missRun := 0 }) :=
    { h with missRun := Nat.zero_le _ }
  exact (trackerAgrees_iff _).mpr ⟨drops.setHoldStop false,
    tested.of_same (by simp [State.unlock]) (by simp [State.unlock]) (by simp [State.unlock])
      (by simp [State.unlock]) (by simp [State.unlock])⟩

/-- The end of STOP brings back the mode the profile read was in (R124, R154). -/
theorem TrackerKept.endStop {s : State} (h : TrackerKept s) (stopped : s.mdc.mode = .stopped) :
    TrackerAgrees s.endStop := by
  have follows : TrackerKept (s.setAlc s.alc.resume).queueAlert :=
    (h.setAlc s.alc.resume_frame.2.1).queueAlert
  have start : s.mdc.profileRead = .reading → s.alc.savedMode = some .start := by
    intro reading
    simpa [stopped] using h.reading reading
  have returned : TrackerKept (s.setAlc s.alc.resume).queueAlert.returnMode := by
    refine follows.changeMode fun reading => .inl ?_
    simp [s.alc.resume_frame, start (by simpa using reading)]
  have settled : TrackerKept (s.setAlc s.alc.resume).queueAlert.returnMode.forgetMode :=
    { returned with
      reading := fun reading => .inl (by
        have saved := start (by simpa [State.forgetMode, State.returnMode] using reading)
        simp [State.forgetMode, State.returnMode, s.alc.resume_frame, saved]) }
  rw [State.endStop_eq]
  exact settled.settle.unlock (tested_settle _)

end Sys2Proof.Machine
end

section
/-! Every command and every bit time keeps the tracker and the conditions in agreement. -/

namespace Sys2Proof.Machine

/-! ## Pulses and announcements -/

/-- The tracker's own fields may change within their ranges, HOLD apart. -/
theorem TrackerKept.setPtr {s : State} (h : TrackerKept s) {x : Tracker}
    (tags : x.h.isSome = x.p.isSome) (awaited : x.announceExpected = true → s.ptr.announceExpected = true)
    (holdRead : x.holdRead = s.ptr.holdRead) (holdBlocked : x.holdBlocked = s.ptr.holdBlocked)
    (holdStop : x.holdStop = s.ptr.holdStop) (holdOthers : x.holdOthers = s.ptr.holdOthers)
    (unannounced : x.unannounced ≤ 255) (coast : x.coast ≤ 4095) : TrackerKept (s.setPtr x) where
  tags := tags
  awaited := fun e => h.awaited (awaited e)
  holdRead := by simpa [State.holdDrive, holdRead, holdBlocked, holdStop, holdOthers] using h.holdRead
  holdBlocked := by simpa [holdBlocked] using h.holdBlocked
  reading := h.reading
  unannounced := unannounced
  coast := coast
  missRun := h.missRun
  pins := h.pins

theorem TrackerKept.advance {s : State} (h : TrackerKept s) {p : Tag} (synced : s.ptr.p = some p) :
    TrackerKept (s.advance p) := by
  have tags := h.tags
  exact h.setPtr (by simpa [synced] using tags) id rfl rfl rfl rfl h.unannounced h.coast

theorem TrackerKept.passClaim {s : State} (h : TrackerKept s) (e : Claim) (rest : List Claim) :
    TrackerKept (s.passClaim e rest) :=
  (((h.setDrc (x := { s.drc with claims := rest }) rfl).uncommit _ _).reviewIdle).raise1 _ _

theorem TrackerKept.clearPassed {s : State} (h : TrackerKept s) (l : List Claim) :
    TrackerKept (s.clearPassed l) := by
  induction l generalizing s with
  | nil => exact h
  | cons e rest ih =>
    unfold State.clearPassed
    split
    · exact ih (h.passClaim e rest)
    · exact h

/-- The head leaves the queue, the diverter turns and the gate is pulsed unless it is locked (R84, R85). -/
def State.aim (s : State) (e : Claim) (rest : List Claim) : State :=
  s.setDrc { s.drc with
    claims := rest, diverter := e.cradle
    gate := if s.drc.gateLock then s.drc.gate else some s.now }

theorem State.fire_of_room {s : State} (e : Claim) (rest : List Claim) (h : s.drc.falling.length < 4) :
    s.fire e rest = (s.aim e rest).setDrc { (s.aim e rest).drc with
      falling := s.drc.falling ++ [{ claim := e, fireTime := s.now, window := .waiting }] } :=
  if_pos h

theorem State.fire_of_full {s : State} (e : Claim) (rest : List Claim) (h : 4 ≤ s.drc.falling.length) :
    s.fire e rest = ((s.aim e rest).land e false).reviewIdle.raise1 .overspeed e.stem.tag :=
  if_neg (Nat.not_lt.mpr h)

theorem TrackerKept.fire {s : State} (h : TrackerKept s) (e : Claim) (rest : List Claim) :
    TrackerKept (s.fire e rest) := by
  have aimed : TrackerKept (s.aim e rest) := h.setDrc rfl
  rcases Nat.lt_or_ge s.drc.falling.length 4 with room | full
  · rw [State.fire_of_room e rest room]
    exact aimed.setDrc rfl
  · rw [State.fire_of_full e rest full]
    exact ((aimed.land e false).reviewIdle).raise1 _ _

theorem TrackerKept.arrival {s : State} (h : TrackerKept s) : TrackerKept s.arrival := by
  have cleared := h.clearPassed s.drc.claims
  unfold State.arrival
  dsimp only
  split
  · exact cleared
  · split
    · exact cleared.fire _ _
    · exact cleared

theorem TrackerKept.expire {s : State} (h : TrackerKept s) : TrackerKept s.expire :=
  h.of_same rfl rfl rfl rfl rfl rfl rfl rfl

/-- The pitch is counted as unannounced, and its announcement is awaited no longer (R11). -/
def State.countPitch (s : State) (silent : Bool) : State :=
  s.setPtr { s.ptr with
    unannounced := min 255 (s.ptr.unannounced + 1), announceExpected := false, gaugeSilent := silent }

/-- The count comes to 8 from 7 alone (R12). -/
theorem min_255_succ_eq_8 (n : Nat) : min 255 (n + 1) = 8 ↔ n = 7 := by omega

/-- The eighth unannounced pitch begins GAUGE-SILENT (R12). -/
theorem State.unannouncedPitch_of_eighth {s : State} (eighth : s.ptr.unannounced = 7)
    (heard : s.ptr.gaugeSilent = false) :
    s.unannouncedPitch = (s.countPitch true).raise1 .gaugeSilent s.stamp :=
  if_pos ⟨(min_255_succ_eq_8 _).mpr eighth, heard⟩

/-- Any other unannounced pitch is counted and no more (R11). -/
theorem State.unannouncedPitch_of_other {s : State}
    (other : ¬ (s.ptr.unannounced = 7 ∧ s.ptr.gaugeSilent = false)) :
    s.unannouncedPitch = s.countPitch s.ptr.gaugeSilent :=
  if_neg fun e => other ⟨(min_255_succ_eq_8 _).mp e.1, e.2⟩

theorem TrackerKept.countPitch {s : State} (h : TrackerKept s) (silent : Bool) :
    TrackerKept (s.countPitch silent) :=
  h.setPtr h.tags (fun e => absurd e Bool.false_ne_true) rfl rfl rfl rfl (Nat.min_le_left 255 _) h.coast

theorem TrackerKept.unannouncedPitch {s : State} (h : TrackerKept s) : TrackerKept s.unannouncedPitch := by
  by_cases eighth : s.ptr.unannounced = 7 ∧ s.ptr.gaugeSilent = false
  · rw [State.unannouncedPitch_of_eighth eighth.1 eighth.2]
    exact (h.countPitch true).raise1 _ _
  · rw [State.unannouncedPitch_of_other eighth]
    exact h.countPitch _

theorem TrackerKept.giveUpStart {s : State} (h : TrackerKept s) : TrackerKept s.giveUpStart :=
  h.of_same (by simp) (by simp) (by simp) (by simp) (by simp) (by simp) (by simp) (by simp)

/-- The flag is set and announce pending begins together (R5, R142). -/
theorem TrackerKept.expectAnnounce {s : State} (h : TrackerKept s) : TrackerKept s.expectAnnounce := by
  have before : TrackerKept (if s.ptr.announceExpected then s.unannouncedPitch else s) := by
    split
    · exact h.unannouncedPitch
    · exact h
  unfold State.expectAnnounce
  generalize (if s.ptr.announceExpected then s.unannouncedPitch else s) = u at before
  have begun : TrackerKept ((u.setPtr { u.ptr with announceExpected := true }).setLbi
      { u.lbi with announcePending := some u.now }) :=
    { before with awaited := fun _ => rfl, holdRead := before.holdRead }
  exact begun.giveUpStart

/-- A forward pulse is counted in a hold episode (R15). -/
def State.coastUp (s : State) : State := s.setPtr { s.ptr with coast := min 4095 (s.ptr.coast + 1) }

/-- The coast count comes to 4 from 3 alone (R15). -/
theorem min_4095_succ_eq_4 (n : Nat) : min 4095 (n + 1) = 4 ↔ n = 3 := by omega

theorem State.countCoast_of_fourth {s : State} (read : s.ptr.holdRead = true) (fourth : s.ptr.coast = 3) :
    s.countCoast = s.coastUp.raise1 .holdOverrun 4 :=
  (if_pos read).trans (if_pos ((min_4095_succ_eq_4 _).mpr fourth))

theorem State.countCoast_of_other {s : State} (read : s.ptr.holdRead = true) (other : s.ptr.coast ≠ 3) :
    s.countCoast = s.coastUp :=
  (if_pos read).trans (if_neg fun e => other ((min_4095_succ_eq_4 _).mp e))

theorem State.countCoast_of_open {s : State} (read : s.ptr.holdRead = false) : s.countCoast = s := by
  simp [State.countCoast, read]

theorem TrackerKept.coastUp {s : State} (h : TrackerKept s) : TrackerKept s.coastUp :=
  h.setPtr h.tags id rfl rfl rfl rfl h.unannounced (Nat.min_le_left 4095 _)

theorem TrackerKept.countCoast {s : State} (h : TrackerKept s) : TrackerKept s.countCoast := by
  cases read : s.ptr.holdRead with
  | false => rwa [State.countCoast_of_open read]
  | true =>
    by_cases fourth : s.ptr.coast = 3
    · rw [State.countCoast_of_fourth read fourth]
      exact h.coastUp.raise1 _ _
    · rw [State.countCoast_of_other read fourth]
      exact h.coastUp

theorem State.forwardPulse_of_unsynced {s : State} (h : s.ptr.p = none) :
    s.forwardPulse = s.expectAnnounce.countCoast.settle := by
  simp [State.forwardPulse, h]

theorem State.forwardPulse_of_synced {s : State} {p : Tag} (h : s.ptr.p = some p) :
    s.forwardPulse = (s.advance p).arrival.expire.expectAnnounce.countCoast.settle := by
  simp [State.forwardPulse, h]

theorem TrackerKept.forwardPulse {s : State} (h : TrackerKept s) : TrackerAgrees s.forwardPulse := by
  cases synced : s.ptr.p with
  | none =>
    rw [State.forwardPulse_of_unsynced synced]
    exact trackerAgrees_settle h.expectAnnounce.countCoast
  | some p =>
    rw [State.forwardPulse_of_synced synced]
    exact trackerAgrees_settle (h.advance synced).arrival.expire.expectAnnounce.countCoast

theorem TrackerKept.frameEnd {s : State} (h : TrackerKept s) : TrackerKept s.frameEnd :=
  h.of_same (by simp) (by rw [State.frameEnd_eq]; rfl) (by simp) (by simp) (by simp) (by simp) (by simp)
    (by simp)

theorem TrackerKept.ownFrameEnd {s : State} (h : TrackerKept s) : TrackerKept s.ownFrameEnd :=
  h.of_same (by simp) (by rw [State.ownFrameEnd_eq]; rfl) (by simp) (by simp) (by simp) (by simp)
    (by simp) (by simp)

theorem State.openRound_pending (s : State) (kind : RoundKind) (st : Stem) :
    (s.openRound kind st).lbi.announcePending = s.lbi.announcePending := by
  unfold State.openRound
  dsimp only
  split <;> simp [State.stopClaimFrame_lbi]

theorem TrackerKept.openRound {s : State} (h : TrackerKept s) (kind : RoundKind) (st : Stem) :
    TrackerKept (s.openRound kind st) :=
  h.of_same (by simp) (s.openRound_pending kind st) (by simp) (by simp) (by simp) (by simp) (by simp)
    (by simp)

theorem State.resync_of_unsynced {s : State} (t : Tag) (h : s.ptr.p = none) :
    s.resync t = s.setPtr { s.ptr with p := some t } := by
  simp [State.resync, h]

theorem State.resync_of_same {s : State} {t : Tag} (h : s.ptr.p = some t) : s.resync t = s := by
  simp [State.resync, h]

/-- A synced P that differs from the tag slips to it (R8). -/
theorem State.resync_of_slip {s : State} {p t : Tag} (h : s.ptr.p = some p) (slip : p ≠ t) :
    s.resync t = (s.setPtr { s.ptr with p := some t }).raise1 .pitchSlip p := by
  simp [State.resync, h, slip]

/-- P is at the announced tag after it (R7, R8). -/
@[simp] theorem State.resync_p (s : State) (t : Tag) : (s.resync t).ptr.p = some t := by
  cases h : s.ptr.p with
  | none => simp [State.resync_of_unsynced t h]
  | some p =>
    by_cases same : p = t
    · subst same
      rw [State.resync_of_same h, h]
    · simp [State.resync_of_slip h same]

/-- P at the announced tag, and H at it too for a new stem (R7 to R9). -/
def State.line (s : State) (st : Stem) : State :=
  if s.judgedNew st.tag then
    (s.resync st.tag).setPtr { (s.resync st.tag).ptr with h := some st.tag }
  else s.resync st.tag

theorem State.trackAnnounce_eq (s : State) (st : Stem) :
    s.trackAnnounce st = if s.judgedNew st.tag then (s.line st).announced.openRound .claim st
      else (s.line st).announced := rfl

theorem State.line_of_new {s : State} {st : Stem} (new : s.judgedNew st.tag = true) :
    s.line st = (s.resync st.tag).setPtr { (s.resync st.tag).ptr with h := some st.tag } := if_pos new

theorem TrackerKept.line {s : State} (h : TrackerKept s) (st : Stem) : TrackerKept (s.line st) := by
  have tags := h.tags
  cases synced : s.ptr.p with
  | none =>
    have new : s.judgedNew st.tag = true := by simp [State.judgedNew, synced]
    rw [State.line_of_new new, State.resync_of_unsynced _ synced]
    exact h.setPtr rfl id rfl rfl rfl rfl h.unannounced h.coast
  | some p =>
    have kept : TrackerKept (s.resync st.tag) := by
      by_cases same : p = st.tag
      · rwa [State.resync_of_same (same ▸ synced)]
      · rw [State.resync_of_slip synced same]
        have slipped : TrackerKept (s.setPtr { s.ptr with p := some st.tag }) :=
          h.setPtr (by simpa [synced] using tags) id rfl rfl rfl rfl h.unannounced h.coast
        exact slipped.raise1 _ _
    unfold State.line
    split
    · exact kept.setPtr (by simp) id rfl rfl rfl rfl kept.unannounced kept.coast
    · exact kept

theorem TrackerKept.announced {s : State} (h : TrackerKept s) : TrackerKept s.announced := by
  have cleared : TrackerKept (s.setPtr { s.ptr with
      announceExpected := false, unannounced := 0, gaugeSilent := false }) :=
    h.setPtr h.tags (by simp) rfl rfl rfl rfl (Nat.zero_le _) h.coast
  unfold State.announced
  dsimp only
  split
  · exact cleared.endCondition _
  · exact cleared

theorem TrackerKept.trackAnnounce {s : State} (h : TrackerKept s) (st : Stem) :
    TrackerKept (s.trackAnnounce st) := by
  have lined := (h.line st).announced
  rw [State.trackAnnounce_eq]
  split
  · exact lined.openRound _ _
  · exact lined

/-- Announce pending runs no longer (R142). -/
def State.stopPending (s : State) : State := s.setLbi { s.lbi with announcePending := none }

/-- Announce pending ends, and an announcement still awaited with it (R11, R142). -/
theorem State.endAnnouncePending_of_awaited {s : State} (running : s.lbi.announcePending.isSome = true)
    (awaited : s.ptr.announceExpected = true) :
    s.endAnnouncePending = s.stopPending.unannouncedPitch := by
  rw [State.endAnnouncePending, if_pos running]
  exact if_pos awaited

theorem State.endAnnouncePending_of_heard {s : State} (running : s.lbi.announcePending.isSome = true)
    (heard : s.ptr.announceExpected = false) :
    s.endAnnouncePending = s.stopPending := by
  rw [State.endAnnouncePending, if_pos running]
  exact if_neg (by simp [heard])

theorem State.endAnnouncePending_of_stopped {s : State} (stopped : s.lbi.announcePending = none) :
    s.endAnnouncePending = s := by
  simp [State.endAnnouncePending, stopped]

theorem TrackerKept.endAnnouncePending {s : State} (h : TrackerKept s) :
    TrackerKept s.endAnnouncePending := by
  cases running : s.lbi.announcePending with
  | none => rwa [State.endAnnouncePending_of_stopped running]
  | some since =>
    have isRunning : s.lbi.announcePending.isSome = true := by simp [running]
    cases awaited : s.ptr.announceExpected with
    | false =>
      rw [State.endAnnouncePending_of_heard isRunning awaited]
      exact { h with awaited := fun e => absurd (awaited.symm.trans e) Bool.false_ne_true }
    | true =>
      rw [State.endAnnouncePending_of_awaited isRunning awaited]
      have counted : ∀ silent, TrackerKept (s.stopPending.countPitch silent) := fun silent =>
        { h.countPitch silent with awaited := fun e => absurd e Bool.false_ne_true }
      by_cases eighth : s.ptr.unannounced = 7 ∧ s.ptr.gaugeSilent = false
      · rw [State.unannouncedPitch_of_eighth (s := s.stopPending) eighth.1 eighth.2]
        exact (counted true).raise1 _ _
      · rw [State.unannouncedPitch_of_other (s := s.stopPending) eighth]
        exact counted _

theorem TrackerKept.badFrame {s : State} (h : TrackerKept s) (k : FrameKind) :
    TrackerKept (s.badFrame k) := by
  cases k with
  | announce => exact h.endAnnouncePending.setLbi rfl
  | reoffer => exact h.setLbi rfl
  | _ => exact h

/-! ## The commands, one block after another -/

/-- Where what the tests read is as it was, they need not be made again. -/
theorem TrackerKept.agrees {s t : State} (h : TrackerKept t) (tested : Tested s)
    (blocked : t.crm.blocked = s.crm.blocked)
    (a : t.crm.cradleA.state = s.crm.cradleA.state) (b : t.crm.cradleB.state = s.crm.cradleB.state)
    (mode : t.mdc.mode = s.mdc.mode) (rct : t.rct = s.rct) : TrackerAgrees t :=
  (trackerAgrees_iff t).mpr ⟨h, tested.of_same blocked a b mode rct⟩

section
variable {s : State} (h : TrackerKept s) (tested : Tested s)
include h tested

/-- The blocks that no part of the tracker reads. -/
theorem trackerAgrees_of_elsewhere {t : State} (ptr : t.ptr = s.ptr)
    (awaited : t.lbi.announcePending = s.lbi.announcePending) (inReset : t.inReset = s.inReset)
    (crm : t.crm = s.crm) (mdc : t.mdc = s.mdc) (alc : t.alc.savedMode = s.alc.savedMode)
    (rct : t.rct = s.rct) (missRun : t.drc.missRun = s.drc.missRun) (inputs : t.inputs = s.inputs) :
    TrackerAgrees t :=
  (h.of_same ptr awaited inReset (by rw [crm]) mdc alc missRun inputs).agrees tested (by rw [crm])
    (by rw [crm]) (by rw [crm]) (by rw [mdc]) rct

theorem trackerAgrees_reversePulse :
    TrackerAgrees (s.setPtr { s.ptr with p := s.ptr.p.map (· - 1) }) := by
  have tags := h.tags
  have moved : TrackerKept (s.setPtr { s.ptr with p := s.ptr.p.map (· - 1) }) :=
    h.setPtr (by simpa using tags) id rfl rfl rfl rfl h.unannounced h.coast
  exact moved.agrees tested rfl rfl rfl rfl rfl

theorem trackerAgrees_announce (st : Stem) : TrackerAgrees (s.announce st) := by
  have kept : TrackerKept (s.announce st) :=
    ((h.frameEnd.trackAnnounce st).endAnnouncePending).setLbi rfl
  exact kept.agrees tested (by simp) (by simp) (by simp) (by simp) (by simp)

theorem trackerAgrees_badFrame (kind : FrameKind) : TrackerAgrees (s.frameEnd.badFrame kind) :=
  (h.frameEnd.badFrame kind).agrees tested (by simp) (by simp) (by simp) (by simp) (by simp)

theorem trackerAgrees_cutShort (kind : FrameKind) : TrackerAgrees (s.cutShort kind) := by
  have idle : TrackerKept ((s.frameEnd.setLbi { s.frameEnd.lbi with openRun := Config.idleRun }).endLost) :=
    (h.frameEnd.setLbi (x := { s.frameEnd.lbi with openRun := Config.idleRun }) rfl).of_same
      (by simp) (by simp) (by simp) (by simp) (by simp) (by simp) (by simp) (by simp)
  have kept : TrackerKept (s.cutShort kind) := by
    unfold State.cutShort
    dsimp only
    split
    · exact idle.endAnnouncePending
    · exact idle
  exact kept.agrees tested (by simp) (by simp) (by simp) (by simp) (by simp)

theorem trackerAgrees_announcePendingEnd : TrackerAgrees s.announcePendingEnd := by
  unfold State.announcePendingEnd
  split
  · exact (trackerAgrees_iff s).mpr ⟨h, tested⟩
  · rename_i since _
    have due : TrackerKept (s.reach (since + Config.announcePendingTime)) :=
      h.of_same rfl rfl rfl rfl rfl rfl rfl rfl
    exact due.endAnnouncePending.agrees tested (by simp) (by simp) (by simp) (by simp) (by simp)

theorem trackerAgrees_readHold : TrackerAgrees s.readHold := by
  obtain ⟨reads, coast⟩ := s.readHold_reads
  have kept : TrackerKept s.readHold := by
    refine h.of_hold ?_ coast (fun _ => reads) ?_ (by simp) (by simp) (by simp) (by simp) (by simp)
    · rw [State.readHold_ptr]
    · simpa [State.readHold_ptr, State.policy] using h.holdBlocked
  exact kept.agrees tested (by simp) (by simp) (by simp) (by simp) (by simp)

end

end Sys2Proof.Machine
end

section
/-! Every command and every bit time keeps the tracker and the conditions in agreement (O8). -/

namespace Sys2Proof.Machine

/-! ## The commands that end with the tests -/

section
variable {s : State} (h : TrackerKept s)
include h

theorem trackerAgrees_wonFrameEnd (c : Candidate) : TrackerAgrees (s.wonFrameEnd c) := by
  have own := h.ownFrameEnd
  have after : ∀ t, TrackerKept t → TrackerAgrees t.roundIdle.settle := fun t kept =>
    trackerAgrees_settle (kept.of_same (by simp) (by simp) (by simp) (by simp) (by simp) (by simp)
      (by simp) (by simp))
  have committed : TrackerKept (s.ownFrameEnd.commit c) :=
    own.of_same (by simp) (by simp) (by simp)
      (by unfold State.commit; dsimp only; split <;> simp) (by simp) (by simp)
      (by unfold State.commit; dsimp only; split <;> simp) (by simp)
  unfold State.wonFrameEnd
  dsimp only
  split
  · exact after _ committed
  · exact after _ (own.reoffer c.stem)

theorem trackerAgrees_complete_settle (c : Cradle) (how : Completion) :
    TrackerAgrees (s.complete c how).settle := trackerAgrees_settle (h.complete c how)

theorem TrackerKept.judgeBreak (c : Cradle) : TrackerKept (s.judgeBreak c) := by
  unfold State.judgeBreak
  split
  · exact h.raise1 _ _
  · rename_i f _
    have taken : TrackerKept (s.setDrc { s.drc with falling := s.drc.falling.erase f }) := h.setDrc rfl
    have landed := taken.land f.claim true
    exact { landed with missRun := Nat.zero_le _ }

theorem TrackerKept.setBeam (c : Cradle) (b : Beam) : TrackerKept (s.setBeam c b) :=
  h.of_same (by simp) (by simp) (by simp) (by simp) (by simp) (by simp) (by simp) (by simp)

theorem TrackerKept.reach (t : Nat) : TrackerKept (s.reach t) :=
  h.of_same rfl rfl rfl rfl rfl rfl rfl rfl

theorem TrackerKept.removePremature (c : Cradle) : TrackerKept (s.removePremature c) := by
  have gone := (((h.forfeitCradle c).discardFalling c).setCradle c
    { ((s.forfeitCradle c).discardFalling c).cradle c with committed := 0 })
  have unbound : ∀ t, TrackerKept t → ∀ r : Option Nat, TrackerKept (match r with
      | none => t
      | some i => t.onRecipe i Recipe.unbound) := by
    intro t kept r
    cases r with
    | none => exact kept
    | some i => exact kept.onRecipe i _
  have reported : ∀ t, TrackerKept t → ∀ (b : Bool) (n : Notice),
      TrackerKept (if b then t else t.joinNotice n) := by
    intro t kept b n
    split
    · exact kept
    · exact kept.joinNotice n
  exact (((reported _ (unbound _ gone _) _ _).setCradle c _).reviewIdle).raise1 _ _

theorem trackerAgrees_cradleLifted (tested : Tested s) (c : Cradle) : TrackerAgrees (s.cradleLifted c) := by
  unfold State.cradleLifted
  split
  · exact (trackerAgrees_iff s).mpr ⟨h, tested⟩
  · have absent := h.setCradle c { s.cradle c with state := .absent }
    refine trackerAgrees_settle ?_
    unfold State.removeStale
    dsimp only
    split
    · exact absent
    · exact absent.endCondition _
  · exact trackerAgrees_settle (h.setCradle c _)
  · exact trackerAgrees_settle (h.setCradle c _)
  · exact trackerAgrees_settle (h.removePremature c)
  · exact trackerAgrees_settle (h.removePremature c)

theorem TrackerKept.closeShort (c : Cradle) : TrackerKept (s.closeShort c) :=
  ((h.forfeitCradle c).setCradle c _).complete c .short

/-- A change of mode that is made outside the profile read (R154). -/
theorem TrackerKept.changeMode_of_past {m : Mode} (past : s.mdc.profileRead ≠ .reading) :
    TrackerKept (s.changeMode m) := h.changeMode fun e => absurd e past

/-- Outside START and STOPPED the profile read is done (R154). -/
theorem TrackerKept.past_of_mode (start : s.mdc.mode ≠ .start) (stopped : s.mdc.mode ≠ .stopped) :
    s.mdc.profileRead ≠ .reading := by
  intro reading
  rcases h.reading reading with e | e
  · exact start e
  · exact stopped e.1

end

/-! ## A level-2 cause -/

section
variable {s : State} (h : TrackerKept s) (tested : Tested s)
  (stopped : s.mdc.mode = .stopped ↔ s.level = .stop)
include h tested stopped

theorem trackerAgrees_raise2 (c : Cause) (param : BitVec 12) : TrackerAgrees (s.raise2 c param) :=
  h.raise2 c param stopped.mp fun _ => tested

theorem trackerAgrees_mismatch (atStart : Bool) : TrackerAgrees (s.mismatch atStart) := by
  have abandoned : ∀ t : State, t.ptr = s.ptr → t.lbi.announcePending = s.lbi.announcePending →
      t.inReset = s.inReset → t.crm = s.crm → t.mdc = s.mdc → t.alc = s.alc → t.rct = s.rct →
      t.drc = s.drc → t.inputs = s.inputs → TrackerAgrees t.countMismatch := by
    intro t ptr awaited inReset crm mdc alc rct drc inputs
    have kept : ∀ m, TrackerKept (t.setLbi { t.lbi with mismatches := m }) := fun m =>
      h.of_same ptr awaited inReset (by simp [crm]) mdc (by simp [alc]) (by simp [drc]) inputs
    have testedT : ∀ m, Tested (t.setLbi { t.lbi with mismatches := m }) := fun m =>
      tested.of_same (by simp [crm]) (by simp [crm]) (by simp [crm]) (by simp [mdc]) rct
    unfold State.countMismatch
    split
    · exact (trackerAgrees_iff _).mpr ⟨kept 1, testedT 1⟩
    · exact trackerAgrees_raise2 (kept 0) (testedT 0)
        (by simpa [mdc, State.level_congr (s := s) (t := t) alc] using stopped) _ _
  have receiver : (s.mismatchReceiver atStart).lbi.announcePending = s.lbi.announcePending := by
    unfold State.mismatchReceiver
    split <;> rfl
  unfold State.mismatch
  split
  · dsimp only
    refine abandoned _ ?_ ?_ ?_ ?_ ?_ ?_ ?_ ?_ ?_ <;> split <;> simp [State.stopDriving, receiver]
  · exact (trackerAgrees_iff s).mpr ⟨h, tested⟩

theorem trackerAgrees_joinHeard (n : StationNo) : TrackerAgrees (s.joinHeard n) := by
  unfold State.joinHeard
  split
  · have level := (s.joinNotice_mayLose .conflict).level
    exact trackerAgrees_raise2 (h.joinNotice _) (tested.of_same (by simp) (by simp) (by simp) (by simp) (by simp))
      (by rw [level]; simpa using stopped) _ _
  · exact (trackerAgrees_iff s).mpr ⟨h, tested⟩

theorem trackerAgrees_conflictHeard (n : StationNo) : TrackerAgrees (s.conflictHeard n) := by
  unfold State.conflictHeard
  split
  · exact trackerAgrees_raise2 h tested stopped _ _
  · exact (trackerAgrees_iff s).mpr ⟨h, tested⟩

theorem trackerAgrees_gateStuck (c : Cradle) : TrackerAgrees (s.gateStuck c) := by
  unfold State.gateStuck
  split
  · exact (trackerAgrees_iff s).mpr ⟨h, tested⟩
  · rename_i since _
    dsimp only
    split
    · have stuck : ∀ b, TrackerKept ((s.reach (since + Config.stuckTime)).setBeam c b) :=
        fun b => (h.reach _).setBeam c b
      refine trackerAgrees_raise2 (stuck _) (tested.of_same (by simp) (by simp) (by simp) (by simp) (by simp))
        ?_ _ _
      rw [State.level_congr (s := s) (by simp)]
      simpa using stopped
    · exact (trackerAgrees_iff s).mpr ⟨h, tested⟩

theorem trackerAgrees_clear (key : Bool) : TrackerAgrees (s.clear key) := by
  have refused : TrackerAgrees s.refusePulse :=
    (h.setAlc (x := { s.alc with refuse := some s.now }) rfl).agrees tested rfl rfl rfl rfl rfl
  unfold State.clear
  split
  · exact refused
  · rename_i r current
    split
    · rename_i isStop
      have level : s.level = .stop := (s.level_eq_stop_iff).mpr ⟨r, current, isStop⟩
      split
      · unfold State.retire2
        split
        · rename_i next more _
          exact (h.setAlc (x := { s.alc with current := some next, pend2 := more }) rfl).queueAlert.agrees
            tested (by simp) (by simp) (by simp) (by simp) (by simp)
        · exact h.endStop (stopped.mpr level)
      · exact refused
    · split
      · exact refused
      · exact (h.setAlc (x := s.alc.retire) rfl).queueAlert.agrees tested
          (by simp) (by simp) (by simp) (by simp) (by simp)

theorem trackerAgrees_profileReadEnd (memory : SerialMemory) :
    TrackerAgrees (s.profileReadEnd memory) := by
  have same : TrackerAgrees s := (trackerAgrees_iff s).mpr ⟨h, tested⟩
  unfold State.profileReadEnd
  split
  · rename_i reading
    have notBlocked : s.crm.blocked = false := by
      rw [tested.blocked, State.blockedNow]
      rcases h.reading reading with mode | ⟨mode, -⟩ <;> simp [mode]
    split
    · rename_i param _ _ _
      have done : TrackerKept (s.setMdc { s.mdc with profileRead := .done }) :=
        { h with reading := fun e => absurd e (by simp) }
      exact trackerAgrees_raise2 done (tested.of_same rfl rfl rfl rfl rfl) (by simpa using stopped) _ _
    · rename_i img _ _
      have accepted : TrackerKept ((s.setMdc { s.mdc with
          profileRead := .done, profile := some (profileOf img) }).setRct (recipesOf img)) :=
        { h with
          holdBlocked := fun run => by
            have := h.holdBlocked run
            simp [notBlocked] at this ⊢
            exact this
          reading := fun e => absurd e (by simp) }
      have queued := accepted.joinNotice (.join (joinFieldsOf (profileOf img) (recipesOf img)))
      generalize eq : ((s.setMdc { s.mdc with
        profileRead := .done, profile := some (profileOf img) }).setRct (recipesOf img)).joinNotice
          (.join (joinFieldsOf (profileOf img) (recipesOf img))) = u at queued
      have past : u.mdc.profileRead ≠ .reading := by simp [← eq]
      have waiting : TrackerKept (u.setMdc { u.mdc with joinTimer := .waiting }) :=
        { queued with reading := fun e => absurd e past }
      have joining : TrackerKept (u.setMdc { u.mdc with joinTimer := .waiting }).enterJoining := by
        unfold State.enterJoining
        split
        · exact { waiting with reading := fun e => absurd e past }
        · exact waiting.changeMode_of_past past
      have settled := trackerAgrees_settle joining
      rw [← eq] at settled
      exact settled
    · exact same
  · exact same

end

/-! ## The modes -/

section
variable {s : State} (h : TrackerKept s) (tested : Tested s)
include h tested

theorem trackerAgrees_refusePulse : TrackerAgrees s.refusePulse :=
  (h.setAlc (x := { s.alc with refuse := some s.now }) rfl).agrees tested rfl rfl rfl rfl rfl

theorem trackerAgrees_drain : TrackerAgrees s.drain := by
  unfold State.drain
  split
  · rename_i mode
    exact trackerAgrees_settle (h.changeMode_of_past (h.past_of_mode (by simp [mode]) (by simp [mode])))
  · exact trackerAgrees_refusePulse h tested

theorem trackerAgrees_resume : TrackerAgrees s.resume := by
  unfold State.resume
  split
  · rename_i may
    have mode : s.mdc.mode = .draining ∨ s.mdc.mode = .idle := by
      simp only [State.mayResume, Bool.or_eq_true, Bool.and_eq_true, beq_iff_eq] at may
      exact may.imp id And.left
    refine trackerAgrees_settle (h.changeMode_of_past (h.past_of_mode ?_ ?_)) <;>
      rcases mode with mode | mode <;> simp [mode]
  · exact trackerAgrees_refusePulse h tested

theorem trackerAgrees_joinTimerEnd : TrackerAgrees s.joinTimerEnd := by
  unfold State.joinTimerEnd
  split
  · rename_i since _
    have stoppedTimer : TrackerKept ((s.reach (since + Config.joinTime)).setMdc
        { s.mdc with joinTimer := .stopped }) := { h with }
    dsimp only
    split
    · rename_i joining
      exact trackerAgrees_settle (stoppedTimer.changeMode_of_past
        (stoppedTimer.past_of_mode (fun e => by simp_all) (fun e => by simp_all)))
    · split
      · rename_i saved
        refine TrackerKept.agrees (s := s) { stoppedTimer with reading := fun reading => ?_ } tested
          rfl rfl rfl rfl rfl
        have start := h.reading reading
        simp_all
      · exact stoppedTimer.agrees tested rfl rfl rfl rfl rfl
  · exact (trackerAgrees_iff s).mpr ⟨h, tested⟩

end

/-! ## A miss -/

/-- The miss run counts a MISS, and its third enters STOP or waits there (R93). -/
theorem TrackerKept.countMiss {s : State} (h : TrackerKept s) (c : Cradle)
    (stopped : s.mdc.mode = .stopped → s.level = .stop) : TrackerKept (s.countMiss c) := by
  have counted : TrackerKept (s.setDrc { s.drc with missRun := min 255 (s.drc.missRun + 1) }) :=
    { h with missRun := Nat.min_le_left 255 _ }
  unfold State.countMiss
  dsimp only
  split
  · by_cases level : (s.setDrc { s.drc with missRun := min 255 (s.drc.missRun + 1) }).level = .stop
    · rw [State.raise2_in_stop _ _ level]
      exact counted.setAlc rfl
    · rw [State.raise2_of_not_stop _ _ level]
      exact ((trackerAgrees_iff _).mp (counted.enterStop _ _ fun mode => level (by simpa using stopped mode))).1
  · exact counted

/-- The stem that missed leaves the list and its cradle's count, and MISS is raised (R68, R92). -/
def State.loseStem (s : State) (f : Falling) (rest : List Falling) : State :=
  ((s.setDrc { s.drc with falling := rest }).uncommit f.claim.cradle 1).reviewIdle.raise1 .miss
    f.claim.stem.tag

theorem State.missed_eq (s : State) (f : Falling) (rest : List Falling) :
    s.missed f rest = ((s.loseStem f rest).countMiss f.claim.cradle).settle := rfl

theorem State.loseStem_mode (s : State) (f : Falling) (rest : List Falling)
    (stopped : (s.loseStem f rest).mdc.mode = .stopped) : s.mdc.mode = .stopped := by
  simp only [State.loseStem, State.raise1_frame, State.reviewIdle_mdc, State.uncommit_frame,
    State.setDrc_mdc] at stopped
  split at stopped
  · exact absurd stopped (by simp)
  · exact stopped

theorem State.loseStem_level (s : State) (f : Falling) (rest : List Falling) :
    (s.loseStem f rest).level = .stop ↔ s.level = .stop := by
  rw [State.loseStem, State.raise1_level _ rfl, State.level_congr (s := s) (by simp)]

theorem TrackerKept.loseStem {s : State} (h : TrackerKept s) (f : Falling) (rest : List Falling) :
    TrackerKept (s.loseStem f rest) :=
  (((h.setDrc (x := { s.drc with falling := rest }) rfl).uncommit f.claim.cradle 1).reviewIdle).raise1
    .miss f.claim.stem.tag

theorem trackerAgrees_missed {s : State} (h : TrackerKept s) (stopped : s.mdc.mode = .stopped → s.level = .stop)
    (f : Falling) (rest : List Falling) : TrackerAgrees (s.missed f rest) := by
  rw [State.missed_eq]
  exact trackerAgrees_settle ((h.loseStem f rest).countMiss f.claim.cradle fun mode =>
    (s.loseStem_level f rest).mpr (stopped (s.loseStem_mode f rest mode)))

theorem trackerAgrees_miss {s : State} (h : TrackerKept s) (tested : Tested s)
    (stopped : s.mdc.mode = .stopped → s.level = .stop) : TrackerAgrees s.miss := by
  unfold State.miss
  split
  · exact (trackerAgrees_iff s).mpr ⟨h, tested⟩
  · split
    · exact trackerAgrees_missed (h.reach _) (by rw [State.level_congr (s := s) (by simp)]; simpa using stopped) _ _
    · exact (trackerAgrees_iff s).mpr ⟨h, tested⟩

end Sys2Proof.Machine
end

section
/-! Every step keeps the tracker and the conditions in agreement: the commands put together (O8). -/

namespace Sys2Proof.Machine

/-! ## Announce pending through the bus commands -/

@[simp] theorem State.endLostFrame_clu (s : State) : s.endLostFrame.clu = s.clu.afterFrame := s.endLost_clu.1

@[simp] theorem State.endLost_clu_afterIdle (s : State) : s.endLost.clu = s.clu.afterIdle := s.endLost_clu.2

theorem State.expire_startNotice_pending (s : State) :
    s.startNotice.lbi.announcePending = s.lbi.announcePending := by
  unfold State.startNotice State.drive
  split
  · dsimp only
    (repeat' split) <;> rfl
  · rfl

theorem State.startReoffer_pending (s : State) :
    s.startReoffer.lbi.announcePending = s.lbi.announcePending := by
  unfold State.startReoffer State.drive
  split <;> rfl

theorem State.joinAll_grows (s : State) (l : List Notice) : s.lbi.NoticesGrow (s.joinAll l).lbi := by
  induction l generalizing s with
  | nil => exact .refl _
  | cons n ns ih => exact (s.joinNotice_grows n).trans (ih _)

theorem State.joinAll_savedMode (s : State) (l : List Notice) :
    (s.joinAll l).alc.savedMode = s.alc.savedMode := by
  induction l generalizing s with
  | nil => rfl
  | cons n ns ih => exact (ih _).trans (by simp)

theorem State.respond_grows (s : State) (topic : Fin 16) : s.lbi.NoticesGrow (s.respond topic).lbi := by
  unfold State.respond
  split
  · exact s.discardNotice_grows
  · exact s.joinAll_grows _

theorem State.respond_savedMode (s : State) (topic : Fin 16) :
    (s.respond topic).alc.savedMode = s.alc.savedMode := by
  unfold State.respond
  split
  · exact s.discardNotice_mayLose.frame.2.2.1
  · exact s.joinAll_savedMode _

section
variable {s : State} (h : TrackerKept s) (tested : Tested s)
include h tested

theorem trackerAgrees_frameEnd : TrackerAgrees s.frameEnd :=
  h.frameEnd.agrees tested (by simp) (by simp) (by simp) (by simp) (by simp)

theorem trackerAgrees_startClaim (kind : RoundKind) (since : Option Nat) :
    TrackerAgrees (s.startClaim kind since) := by
  refine trackerAgrees_of_elsewhere h tested (by simp) ?_ (by simp) (by simp) (by simp) (by simp) (by simp)
    (by simp) (by simp)
  unfold State.startClaim
  split
  · rfl
  · split <;> rfl

theorem trackerAgrees_loseArbitration : TrackerAgrees s.loseArbitration := by
  refine trackerAgrees_of_elsewhere h tested (by simp) ?_ (by simp) (by simp) (by simp) (by simp) (by simp)
    (by simp) (by simp)
  unfold State.loseArbitration State.stopDriving
  (repeat' split) <;> rfl

theorem trackerAgrees_reofferReceived (st : Stem) :
    TrackerAgrees (s.frameEnd.takeReoffer st).openReclaimReserve := by
  refine trackerAgrees_of_elsewhere h tested (by simp) ?_ (by simp) (by simp) (by simp) (by simp) (by simp)
    (by simp) (by simp)
  have frame : s.frameEnd.lbi.announcePending = s.lbi.announcePending := by simp [State.frameEnd]
  unfold State.takeReoffer State.openReclaimReserve
  split
  · simpa using frame
  · simpa [State.openRound_pending] using frame

theorem trackerAgrees_becomeIdle : TrackerAgrees s.becomeIdle := by
  refine trackerAgrees_of_elsewhere h tested (by simp) ?_ (by simp) (by simp) (by simp) (by simp) (by simp)
    (by simp) (by simp)
  unfold State.becomeIdle
  split <;> simp

theorem trackerAgrees_startMark : TrackerAgrees s.startMark := by
  refine trackerAgrees_of_elsewhere h tested (by simp) ?_ (by simp) (by simp) (by simp) (by simp) (by simp)
    (by simp) (by simp)
  unfold State.startMark
  split <;> simp

theorem trackerAgrees_reserveEnds : TrackerAgrees s.claimReserveEnd ∧ TrackerAgrees s.reclaimReserveEnd := by
  constructor <;> refine trackerAgrees_of_elsewhere h tested (by simp) ?_ (by simp) (by simp) (by simp)
    (by simp) (by simp) (by simp) (by simp)
  · unfold State.claimReserveEnd
    (repeat' split) <;> rfl
  · unfold State.reclaimReserveEnd
    (repeat' split) <;> rfl

theorem trackerAgrees_reofferSend : TrackerAgrees s.reofferSend := by
  refine trackerAgrees_of_elsewhere h tested (by simp) ?_ (by simp) (by simp) (by simp) (by simp) (by simp)
    (by simp) (by simp)
  unfold State.reofferSend
  (repeat' split) <;> simp [State.expire_startNotice_pending, State.startReoffer_pending]

theorem trackerAgrees_noticeSend : TrackerAgrees s.noticeSend := by
  refine trackerAgrees_of_elsewhere h tested (by simp) ?_ (by simp) (by simp) (by simp) (by simp) (by simp)
    (by simp) (by simp)
  unfold State.noticeSend
  split <;> simp [State.expire_startNotice_pending]

theorem trackerAgrees_reofferSent : TrackerAgrees s.reofferSent := by
  refine trackerAgrees_of_elsewhere h tested (by simp) ?_ (by simp) (by simp) (by simp) (by simp) (by simp)
    (by simp) (by simp)
  unfold State.reofferSent State.reofferLeaves
  split <;> simp [State.ownFrameEnd_eq, State.openReclaimReserve, LineBus.afterFrame]

/-- The join timer begins at most, and the tracker reads nothing of it. -/
theorem trackerAgrees_noticeSent : TrackerAgrees s.noticeSent := by
  unfold State.noticeSent
  split
  · exact (trackerAgrees_iff s).mpr ⟨h, tested⟩
  · exact (trackerAgrees_iff s).mpr ⟨h, tested⟩
  · exact (trackerAgrees_iff s).mpr ⟨h, tested⟩
  · rename_i f _ _ _
    have pending : ((s.ownFrameEnd.clearLost f).noticeLeaves).lbi.announcePending =
        s.lbi.announcePending := by
      unfold State.noticeLeaves State.clearLost
      (repeat' split) <;> simp [State.ownFrameEnd_eq, LineBus.afterFrame]
    have left : TrackerKept ((s.ownFrameEnd.clearLost f).noticeLeaves) :=
      h.of_same (by simp) pending (by simp) (by simp) (by simp) (by simp) (by simp) (by simp)
    have timed : TrackerKept (((s.ownFrameEnd.clearLost f).noticeLeaves).startJoinTimer f) := by
      unfold State.startJoinTimer
      split
      · split
        · exact { left with }
        · exact left
      · exact left
    refine timed.agrees tested (by simp) (by simp) (by simp) ?_ (by simp)
    unfold State.startJoinTimer
    (repeat' split) <;> simp

theorem trackerAgrees_queried (n : StationNo) (topic : Fin 16) :
    TrackerAgrees (s.frameEnd.queried n topic) := by
  unfold State.queried
  split
  · have kept : TrackerKept (s.frameEnd.respond topic) :=
      h.frameEnd.of_same (by simp) (State.respond_grows _ _).frame.2.2.2.2.1 (by simp) (by simp) (by simp)
        (State.respond_savedMode _ _) (by simp) (by simp)
    exact kept.agrees tested (by simp) (by simp) (by simp) (by simp) (by simp)
  · exact trackerAgrees_frameEnd h tested

theorem trackerAgrees_unknownKind : TrackerAgrees s.unknownKind :=
  trackerAgrees_of_elsewhere h tested rfl rfl rfl rfl rfl rfl rfl rfl rfl

theorem trackerAgrees_claimFrameEnd (kind : RoundKind) : TrackerAgrees (s.claimFrameEnd kind) := by
  unfold State.claimFrameEnd
  split
  · exact (trackerAgrees_iff s).mpr ⟨h, tested⟩
  · split
    · exact trackerAgrees_wonFrameEnd h _
    · exact (trackerAgrees_iff s).mpr ⟨h, tested⟩

/-! ## The cradles, the drops and the panel -/

theorem trackerAgrees_cradlePlaced (c : Cradle) : TrackerAgrees (s.cradlePlaced c) := by
  unfold State.cradlePlaced
  split
  · exact trackerAgrees_settle (h.setCradle c _)
  · exact (trackerAgrees_iff s).mpr ⟨h, tested⟩

theorem trackerAgrees_removalOverdue (c : Cradle) : TrackerAgrees (s.removalOverdue c) := by
  unfold State.removalOverdue
  split
  · exact (trackerAgrees_iff s).mpr ⟨h, tested⟩
  · rename_i since _
    have kept := fun due r => ((h.reach due).setCradle c r).raise1 .removalOverdue (cradleParam c)
    refine (kept _ _).agrees tested (by simp) ?_ ?_ (by simp) (by simp) <;> cases c <;>
      simp [State.setCradle, State.cradle]

theorem trackerAgrees_beamBreaks (c : Cradle) : TrackerAgrees (s.beamBreaks c) := by
  unfold State.beamBreaks
  split
  · exact (trackerAgrees_iff s).mpr ⟨h, tested⟩
  · exact trackerAgrees_settle ((h.setBeam c _).judgeBreak c)

theorem trackerAgrees_beamClears (c : Cradle) : TrackerAgrees (s.beamClears c) := by
  unfold State.beamClears
  split
  · exact (h.setBeam c _).agrees tested (by simp) (by simp) (by simp) (by simp) (by simp)
  · exact (trackerAgrees_iff s).mpr ⟨h, tested⟩

theorem trackerAgrees_win : TrackerAgrees s.win := by
  unfold State.win
  split
  · exact trackerAgrees_of_elsewhere h tested rfl rfl rfl rfl rfl rfl rfl rfl rfl
  · exact (trackerAgrees_iff s).mpr ⟨h, tested⟩

theorem trackerAgrees_windowOpen : TrackerAgrees s.windowOpen := by
  refine trackerAgrees_of_elsewhere h tested (by simp) (by simp) (by simp) (by simp) (by simp) (by simp)
    (by simp) ?_ (by simp)
  unfold State.windowOpen
  split <;> rfl

theorem trackerAgrees_gatePulseEnd : TrackerAgrees s.gatePulseEnd := by
  refine trackerAgrees_of_elsewhere h tested (by simp) (by simp) (by simp) (by simp) (by simp) (by simp)
    (by simp) ?_ (by simp)
  unfold State.gatePulseEnd
  split <;> rfl

theorem trackerAgrees_pull (c : Cradle) : TrackerAgrees (s.pull c) := by
  unfold State.pull
  split
  · exact trackerAgrees_settle ((h.setCradle c _).afterLoss c)
  · exact trackerAgrees_refusePulse h tested

theorem trackerAgrees_finish (c : Cradle) (key : Bool) : TrackerAgrees (s.finish c key) := by
  unfold State.finish
  split
  · exact trackerAgrees_settle (h.closeShort c)
  · exact trackerAgrees_refusePulse h tested

theorem trackerAgrees_refusePulseEnd : TrackerAgrees s.refusePulseEnd := by
  refine trackerAgrees_of_elsewhere h tested (by simp) (by simp) (by simp) (by simp) (by simp) ?_
    (by simp) (by simp) (by simp)
  unfold State.refusePulseEnd
  split <;> rfl

/-! ## HOLD, the input pins and the passing of time -/

theorem trackerAgrees_holdLevelChange (marked : Bool) :
    TrackerAgrees (s.setPtr { s.ptr with holdOthers := marked }).readHold := by
  obtain ⟨reads, coast⟩ := (s.setPtr { s.ptr with holdOthers := marked }).readHold_reads
  have kept : TrackerKept (s.setPtr { s.ptr with holdOthers := marked }).readHold := by
    refine h.of_hold ?_ coast (fun _ => reads) ?_ (by simp) (by simp) (by simp) (by simp) (by simp)
    · rw [State.readHold_ptr]
      rfl
    · simpa [State.readHold_ptr, State.policy] using h.holdBlocked
  exact kept.agrees tested (by simp) (by simp) (by simp) (by simp) (by simp)

/-- The input pins may change within their ranges. -/
theorem trackerKept_setInputs {x : Inputs} (pins : ∀ p, (x.pins.get p).inRange p) :
    TrackerKept (s.setInputs x) ∧ Tested (s.setInputs x) :=
  ⟨{ h with pins := fun p _ => pins p }, tested.of_same rfl rfl rfl rfl rfl⟩

theorem trackerKept_told (p : Pin) (level : Bool) :
    TrackerKept (s.told p level) ∧ Tested (s.told p level) := by
  refine trackerKept_setInputs h tested fun x => ?_
  have range := h.pins x (Pin.mem_all x)
  rw [Inputs.onPins_get]
  split
  · unfold Qualifier.told
    split
    · exact range
    · exact ⟨qualifyTime_pos x, fun e => absurd e (by simp [Qualifier.first])⟩
  · exact range

end

/-- One bit time leaves a held level true (R182). -/
theorem Qualifier.tick_held {q : Qualifier} {p : Pin} (held : q.held = true → q.level = true) :
    (q.tick p).held = true → (q.tick p).level = true := by
  unfold Qualifier.tick
  split
  · exact fun e => absurd e (by simp [Qualifier.first])
  · exact held

theorem trackerAgrees_tick {s : State} (h : TrackerKept s) (tested : Tested s) : TrackerAgrees s.tick := by
  obtain ⟨kept, testedPins⟩ := trackerKept_setInputs h tested (x := s.inputs.tick) fun p => by
    rw [Inputs.tick_get]
    exact ⟨Qualifier.tick_run _ _, Qualifier.tick_held (h.pins p (Pin.mem_all p)).2⟩
  unfold State.tick
  dsimp only
  split
  · exact (trackerAgrees_iff _).mpr ⟨kept, testedPins⟩
  · rw [State.openBit_eq]
    exact trackerAgrees_of_elsewhere kept testedPins rfl rfl rfl rfl rfl rfl rfl rfl rfl

/-! ## Held in reset -/

/-- With the outputs released the hold reasons are gone, which is as it is read in reset (R13, R136). -/
theorem trackerAgrees_released {s : State} (h : TrackerKept s) (tested : Tested s) :
    TrackerAgrees s.released := by
  have kept : TrackerKept s.released :=
    { h with holdRead := fun e => absurd e (by simp [State.released])
             holdBlocked := fun e => absurd e (by simp [State.released]) }
  exact kept.agrees tested rfl rfl rfl rfl rfl

theorem trackerAgrees_whileHeld {s : State} (h : TrackerKept s) (tested : Tested s)
    (held : s.inReset = true) (c : Instr) : TrackerAgrees (s.whileHeld c) := by
  have told := fun p level => (trackerAgrees_iff _).mpr (trackerKept_told h tested p level)
  cases c with
  | beamBlocked c => exact told _ _
  | beamClear c => exact told _ _
  | cradlePresent c => exact told _ _
  | cradleAbsent c => exact told _ _
  | holdLevelChange marked =>
    have kept : TrackerKept (s.setPtr { s.ptr with holdOthers := marked }) :=
      { h with holdRead := fun e => absurd (e.symm.trans held) Bool.false_ne_true
               holdBlocked := fun e => absurd (e.symm.trans held) Bool.false_ne_true }
    exact kept.agrees tested rfl rfl rfl rfl rfl
  | _ => exact (trackerAgrees_iff s).mpr ⟨h, tested⟩

/-! ## Every command -/

theorem trackerAgrees_operate {s : State} (h : TrackerKept s) (tested : Tested s)
    (stopped : s.mdc.mode = .stopped ↔ s.level = .stop) (c : Instr) : TrackerAgrees (s.operate c) := by
  have same : TrackerAgrees s := (trackerAgrees_iff s).mpr ⟨h, tested⟩
  have told := fun p level => trackerKept_told h tested p level
  have frame := (trackerAgrees_iff _).mp (trackerAgrees_frameEnd h tested)
  have stoppedFrame : s.frameEnd.mdc.mode = .stopped ↔ s.frameEnd.level = .stop := by
    rw [State.level_congr (s := s) (by simp)]
    simpa using stopped
  cases c with
  | reset _ => exact same
  | resetHeld => exact same
  | profileReadEnd memory => exact trackerAgrees_profileReadEnd h tested stopped memory
  | forwardPulse => exact h.forwardPulse
  | reversePulse => exact trackerAgrees_reversePulse h tested
  | announce st => exact State.hears_keeps same fun _ => trackerAgrees_announce h tested st
  | announcePendingEnd => exact trackerAgrees_announcePendingEnd h tested
  | holdLevelChange marked => exact trackerAgrees_holdLevelChange h tested marked
  | claimStart => exact trackerAgrees_startClaim h tested _ _
  | reclaimStart => exact trackerAgrees_startClaim h tested _ _
  | arbitrationLoss => exact trackerAgrees_loseArbitration h tested
  | transmitMismatch atStart => exact trackerAgrees_mismatch h tested stopped atStart
  | claimSent => exact trackerAgrees_claimFrameEnd h tested .claim
  | reclaimSent => exact trackerAgrees_claimFrameEnd h tested .reclaim
  | claimReceived _ => exact State.hears_keeps same fun _ => trackerAgrees_frameEnd h tested
  | reofferReceived _ st => exact State.hears_keeps same fun _ => trackerAgrees_reofferReceived h tested st
  | badCheckFrame kind => exact State.hears_keeps same fun _ => trackerAgrees_badFrame h tested kind
  | frameCutShort kind => exact State.hears_keeps same fun _ => trackerAgrees_cutShort h tested kind
  | unknownKindFrame _ => exact State.hears_keeps same fun _ => trackerAgrees_unknownKind h tested
  | busIdle => exact trackerAgrees_becomeIdle h tested
  | claimReserveEnd => exact (trackerAgrees_reserveEnds h tested).1
  | reclaimReserveEnd => exact (trackerAgrees_reserveEnds h tested).2
  | reofferSend => exact trackerAgrees_reofferSend h tested
  | reofferSent => exact trackerAgrees_reofferSent h tested
  | noticeSend => exact trackerAgrees_noticeSend h tested
  | noticeSent => exact trackerAgrees_noticeSent h tested
  | joinTimerEnd => exact trackerAgrees_joinTimerEnd h tested
  | joinReceived n =>
    exact State.hears_keeps same fun _ => trackerAgrees_joinHeard frame.1 frame.2 stoppedFrame n
  | conflictReceived n =>
    exact State.hears_keeps same fun _ => trackerAgrees_conflictHeard frame.1 frame.2 stoppedFrame n
  | noticeReceived _ => exact State.hears_keeps same fun _ => trackerAgrees_frameEnd h tested
  | query n topic => exact State.hears_keeps same fun _ => trackerAgrees_queried h tested n topic
  | cradlePresent c => exact trackerAgrees_cradlePlaced (told _ _).1 (told _ _).2 c
  | cradleAbsent c => exact trackerAgrees_cradleLifted (told _ _).1 (told _ _).2 c
  | beamBlocked c => exact trackerAgrees_beamBreaks (told _ _).1 (told _ _).2 c
  | beamClear c => exact trackerAgrees_beamClears (told _ _).1 (told _ _).2 c
  | windowOpen => exact trackerAgrees_windowOpen h tested
  | miss => exact trackerAgrees_miss h tested stopped.mp
  | gatePulseEnd => exact trackerAgrees_gatePulseEnd h tested
  | gateStuck c => exact trackerAgrees_gateStuck h tested stopped c
  | removalOverdue c => exact trackerAgrees_removalOverdue h tested c
  | pull c => exact State.pressed_keeps _ same (trackerAgrees_pull h tested c)
  | finish c key => exact State.pressed_keeps _ same (trackerAgrees_finish h tested c key)
  | clear key => exact State.pressed_keeps _ same (trackerAgrees_clear h tested stopped key)
  | cancel =>
    exact State.pressed_keeps _ same (trackerAgrees_of_elsewhere h tested rfl rfl rfl rfl rfl rfl rfl rfl rfl)
  | drain => exact State.pressed_keeps _ same (trackerAgrees_drain h tested)
  | resume => exact State.pressed_keeps _ same (trackerAgrees_resume h tested)
  | refusePulseEnd => exact trackerAgrees_refusePulseEnd h tested
  | startMark => exact trackerAgrees_startMark h tested
  | won => exact trackerAgrees_win h tested

/-- Settles O8: the tracker's own fields step by step, and the two tests made again at the end of each event that
changes a cradle or the mode. -/
theorem everyStepKeepsTheTracker : Obligations.EveryStepKeepsTheTracker := by
  intro s t sound h
  have kept : ∀ u, Sound u → TrackerKept u ∧ Tested u := fun u sound => (trackerAgrees_iff u).mp sound.2.2.2
  obtain ⟨keptS, testedS⟩ := kept s sound
  refine step_keeps sound h (fun u soundU => soundU.2.2.2) (trackerAgrees_tick keptS testedS)
    (fun u soundU => trackerAgrees_released (kept u soundU).1 (kept u soundU).2)
    (fun c u soundU held => trackerAgrees_whileHeld (kept u soundU).1 (kept u soundU).2 held c)
    fun c u soundU run => ?operated
  obtain ⟨keptU, testedU⟩ := kept u soundU
  obtain ⟨-, ⟨-, -, -, -, -, -, stopped, -⟩, -⟩ := soundU
  exact trackerAgrees_operate keptU testedU stopped c

end Sys2Proof.Machine
end

section
/-! The alert records among themselves (R115, R118 to R120): what a record taken in, a cause that ends and a lost
notice leave of their order, of the level and of the places a cause stands in. -/

namespace Sys2Proof.Machine

/-- A level-2 record is current: the level is STOP (R115). -/
def AlertController.stops (x : AlertController) : Prop := ∃ r, x.current = some r ∧ r.cause.isStop = true

/-- The records agree among themselves: the sets in code order and of their levels, nothing pending behind an empty
current record, and nothing saved and no level-2 code pending outside STOP (R115, R121 to R123). -/
structure AlertController.Ordered (x : AlertController) : Prop where
  pend1 : inCodeOrder x.pend1
  pend2 : inCodeOrder x.pend2
  level1 : ∀ r ∈ x.pend1, r.cause.isStop = false
  level2 : ∀ r ∈ x.pend2, r.cause.isStop = true
  saved : ∀ r ∈ x.saved, r.cause.isStop = false
  behind : x.current = none → x.pend1 = []
  quiet : ¬ x.stops → x.saved = none ∧ x.pend2 = []

theorem State.level_eq_stop_iff_stops (s : State) : s.level = .stop ↔ s.alc.stops := s.level_eq_stop_iff

/-! ## Sets in code order -/

theorem Cause.code_injective {a b : Cause} (h : a.code = b.code) : a = b := by
  cases a <;> cases b <;> first | rfl | exact absurd h (by decide)

theorem inCodeOrder_cons {x : Record} {l : List Record} :
    inCodeOrder (x :: l) ↔ (∀ y ∈ l, x.cause.code < y.cause.code) ∧ inCodeOrder l := by
  simp [inCodeOrder]

theorem inCodeOrder_putRecord {r : Record} {l : List Record} (h : inCodeOrder l) :
    inCodeOrder (putRecord r l) := by
  induction l with
  | nil => simp [putRecord, inCodeOrder]
  | cons x xs ih =>
    obtain ⟨first, rest⟩ := inCodeOrder_cons.mp h
    unfold putRecord
    split
    · rename_i same
      exact inCodeOrder_cons.mpr ⟨fun y m => by rw [← same]; exact first y m, rest⟩
    · rename_i other
      split
      · rename_i below
        refine inCodeOrder_cons.mpr ⟨fun y m => ?_, ih rest⟩
        obtain rfl | m := mem_putRecord m
        · exact below
        · exact first y m
      · rename_i above
        have ne : r.cause.code ≠ x.cause.code := fun e => other (Cause.code_injective e.symm)
        refine inCodeOrder_cons.mpr ⟨fun y m => ?_, h⟩
        obtain rfl | m := List.mem_cons.mp m
        · omega
        · exact Nat.lt_trans (by omega) (first y m)

theorem inCodeOrder_sublist {l m : List Record} (h : inCodeOrder l) (k : m.Sublist l) : inCodeOrder m :=
  List.Pairwise.sublist (k.map _) h

/-! ## Places -/

/-- How many records of a list are of a cause. -/
def countCause (c : Cause) (l : List Record) : Nat := (l.filter (·.cause = c)).length

theorem AlertController.places_eq (x : AlertController) (c : Cause) :
    x.places c = countCause c x.current.toList + countCause c x.saved.toList + countCause c x.pend1 +
      countCause c x.pend2 := by
  simp [AlertController.places, AlertController.standing, countCause, Nat.add_assoc]

@[simp] theorem countCause_nil (c : Cause) : countCause c [] = 0 := rfl

@[simp] theorem countCause_cons (c : Cause) (r : Record) (l : List Record) :
    countCause c (r :: l) = (if r.cause = c then 1 else 0) + countCause c l := by
  unfold countCause
  by_cases h : r.cause = c <;> simp [h, Nat.add_comm]

theorem countCause_eq_zero_iff {c : Cause} {l : List Record} :
    countCause c l = 0 ↔ ∀ r ∈ l, r.cause ≠ c := by
  simp [countCause]

theorem countCause_putRecord_of_ne {c : Cause} {r : Record} (h : r.cause ≠ c) (l : List Record) :
    countCause c (putRecord r l) = countCause c l := by
  induction l with
  | nil => simp [putRecord, h]
  | cons x xs ih =>
    unfold putRecord
    split
    · rename_i same
      simp [h, same]
    · split
      · simp [ih]
      · simp [h]

theorem countCause_putRecord_self {c : Cause} {r : Record} {l : List Record} (h : r.cause = c)
    (new : countCause c l = 0) : countCause c (putRecord r l) = 1 := by
  induction l with
  | nil => simp [putRecord, h]
  | cons x xs ih =>
    have other : x.cause ≠ c := countCause_eq_zero_iff.mp new x (by simp)
    have rest : countCause c xs = 0 := by simpa [other] using new
    unfold putRecord
    rw [if_neg (h ▸ other)]
    split
    · simp [other, ih rest]
    · simp [h, other, rest]

theorem countCause_filter_self (c : Cause) (l : List Record) :
    countCause c (l.filter fun r => r.cause != c) = 0 := by
  rw [countCause_eq_zero_iff]
  intro r m
  simpa using (List.mem_filter.mp m).2

theorem countCause_filter_of_ne {c d : Cause} (h : c ≠ d) (l : List Record) :
    countCause c (l.filter fun r => r.cause != d) = countCause c l := by
  induction l with
  | nil => rfl
  | cons x xs ih =>
    by_cases e : x.cause = d
    · have other : x.cause ≠ c := fun k => h (k.symm.trans e)
      simp [e, ih, Ne.symm h]
    · simp [e, ih]

theorem Option.toList_filter_ne (c : Cause) (o : Option Record) :
    (o.filter fun r => r.cause != c).toList = o.toList.filter fun r => r.cause != c := by
  cases o with
  | none => rfl
  | some r => by_cases e : r.cause = c <;> simp [Option.filter, e]

/-! ## A record taken in -/

theorem AlertController.stops_attend {x : AlertController} {r : Record} (h : r.cause.isStop = false) :
    (x.attend r).stops ↔ x.stops := by
  simp only [AlertController.stops, AlertController.attend_current]
  cases x.current <;> simp [h]

theorem AlertController.Ordered.attend {x : AlertController} (o : x.Ordered) {r : Record}
    (h : r.cause.isStop = false) : (x.attend r).Ordered := by
  have stops := AlertController.stops_attend (x := x) h
  cases k : x.current with
  | none =>
    rw [AlertController.attend_of_none k] at stops ⊢
    exact { o with behind := fun e => absurd e (by simp), quiet := fun e => o.quiet (stops.not.mp e) }
  | some q =>
    rw [AlertController.attend_of_some k] at stops ⊢
    exact { o with
      pend1 := inCodeOrder_putRecord o.pend1
      level1 := fun y m => (mem_putRecord m).elim (fun e => e ▸ h) (o.level1 y)
      behind := fun e => absurd (k.symm.trans e) (by simp)
      quiet := fun e => o.quiet (stops.not.mp e) }

theorem AlertController.places_attend_of_ne (x : AlertController) {r : Record} {c : Cause}
    (h : r.cause ≠ c) : (x.attend r).places c = x.places c := by
  cases k : x.current with
  | none => simp [AlertController.attend_of_none k, AlertController.places_eq, k, h]
  | some q => simp [AlertController.attend_of_some k, AlertController.places_eq, countCause_putRecord_of_ne h]

theorem AlertController.places_attend_self {x : AlertController} {r : Record} {c : Cause} (h : r.cause = c)
    (new : x.places c = 0) : (x.attend r).places c = 1 := by
  rw [AlertController.places_eq] at new
  have pend : countCause c x.pend1 = 0 := by omega
  cases k : x.current with
  | none =>
    simp [AlertController.attend_of_none k, AlertController.places_eq, h]
    omega
  | some q =>
    simp only [AlertController.attend_of_some k, AlertController.places_eq,
      countCause_putRecord_self h pend]
    omega

/-! ## A cause that ends -/

/-- Outside STOP the record that follows a retired one is of level 1 or none (R119). -/
theorem AlertController.Ordered.retire {x : AlertController} (o : x.Ordered) (h : ¬ x.stops) :
    x.retire.Ordered ∧ ¬ x.retire.stops := by
  have quiet : ¬ x.retire.stops := by
    rintro ⟨r, current, isStop⟩
    have m : r ∈ x.pend1 := List.mem_of_mem_head? (by simpa [AlertController.retire] using current)
    exact Bool.false_ne_true ((o.level1 r m).symm.trans isStop)
  refine ⟨{ o with
    pend1 := inCodeOrder_sublist o.pend1 (List.tail_sublist _)
    level1 := fun r m => o.level1 r (List.mem_of_mem_tail m)
    behind := fun e => ?_
    quiet := fun _ => o.quiet h }, quiet⟩
  have none : x.pend1 = [] := by simpa [AlertController.retire] using e
  simp [AlertController.retire, none]

theorem AlertController.Ordered.drop {x : AlertController} (o : x.Ordered) {c : Cause}
    (h : c.isStop = false) : (x.drop c).Ordered ∧ ((x.drop c).stops ↔ x.stops) := by
  by_cases k : ∃ r, x.current = some r ∧ r.cause = c
  · obtain ⟨r, current, rfl⟩ := k
    have quiet : ¬ x.stops := by
      rintro ⟨q, current', isStop⟩
      rw [current] at current'
      injection current' with e
      exact Bool.false_ne_true (h.symm.trans (e ▸ isStop))
    obtain ⟨ordered, quiet'⟩ := o.retire quiet
    rw [AlertController.drop_of_current current rfl]
    exact ⟨ordered, iff_of_false quiet' quiet⟩
  · rw [AlertController.drop_of_other (by simpa using k)]
    refine ⟨{ o with
      pend1 := inCodeOrder_sublist o.pend1 List.filter_sublist
      level1 := fun r m => o.level1 r (List.mem_filter.mp m).1
      saved := fun r m => o.saved r (Option.filter_eq_some_iff.mp m).1
      behind := fun e => by simp [o.behind e]
      quiet := fun e => ?_ }, Iff.rfl⟩
    obtain ⟨saved, pend2⟩ := o.quiet e
    exact ⟨by simp [saved], pend2⟩

theorem AlertController.places_retire_of_ne {x : AlertController} {r : Record} {c : Cause}
    (current : x.current = some r) (h : r.cause ≠ c) : x.retire.places c = x.places c := by
  cases pend : x.pend1 <;> simp [AlertController.retire, AlertController.places_eq, current, pend, h]
  omega

theorem AlertController.places_drop_of_ne {x : AlertController} {c d : Cause} (h : c ≠ d) :
    (x.drop d).places c = x.places c := by
  by_cases k : ∃ r, x.current = some r ∧ r.cause = d
  · obtain ⟨r, current, rfl⟩ := k
    rw [AlertController.drop_of_current current rfl, AlertController.places_retire_of_ne current h.symm]
  · rw [AlertController.drop_of_other (by simpa using k)]
    simp only [AlertController.places_eq, Option.toList_filter_ne, countCause_filter_of_ne h]

/-- A cause that stands once at most stands nowhere after its end (R117). -/
theorem AlertController.Ordered.places_drop_self {x : AlertController} (o : x.Ordered) {c : Cause}
    (h : c.isStop = false) (once : x.places c ≤ 1) : (x.drop c).places c = 0 := by
  have level2 : countCause c x.pend2 = 0 := countCause_eq_zero_iff.mpr fun r m e =>
    Bool.false_ne_true ((h.symm.trans (e ▸ rfl)).trans (o.level2 r m))
  by_cases k : ∃ r, x.current = some r ∧ r.cause = c
  · obtain ⟨r, current, rfl⟩ := k
    rw [AlertController.drop_of_current current rfl]
    rw [AlertController.places_eq, current] at once
    have rest : countCause r.cause x.saved.toList = 0 ∧ countCause r.cause x.pend1 = 0 := by
      simp only [Option.toList_some, countCause_cons, if_true] at once
      omega
    have moved : countCause r.cause x.pend1.head?.toList + countCause r.cause x.pend1.tail =
        countCause r.cause x.pend1 := by
      cases x.pend1 <;> simp
    simp only [AlertController.retire, AlertController.places_eq]
    omega
  · have other : ∀ r ∈ x.current, r.cause ≠ c := by simpa using k
    rw [AlertController.drop_of_other other]
    have current : countCause c x.current.toList = 0 :=
      countCause_eq_zero_iff.mpr fun r m => other r (by simpa using m)
    simp only [AlertController.places_eq, Option.toList_filter_ne, countCause_filter_self, current, level2]

/-! ## A lost notice -/

theorem AlertController.MayLose.stops {x y : AlertController} (h : x.MayLose y) : y.stops ↔ x.stops := by
  obtain rfl | ⟨stamp, rfl⟩ := h
  · rfl
  · exact AlertController.stops_attend rfl

theorem AlertController.Ordered.mayLose {x y : AlertController} (o : x.Ordered) (h : x.MayLose y) :
    y.Ordered := by
  obtain rfl | ⟨stamp, rfl⟩ := h
  · exact o
  · exact o.attend rfl

theorem AlertController.MayLose.places {x y : AlertController} {c : Cause} (h : x.MayLose y)
    (k : c ≠ .noticeLost) : y.places c = x.places c := by
  obtain rfl | ⟨stamp, rfl⟩ := h
  · rfl
  · exact x.places_attend_of_ne (Ne.symm k)

end Sys2Proof.Machine
end

section
/-! The alert records through the shared operations (R117 to R120): which conditions stand with their causes, and
that the level keeps away from STOP or in it. -/

namespace Sys2Proof.Machine

/-- The records agree with each other and with the conditions, and a STALE cradle is bound to no recipe. -/
structure RecordsKept (s : State) : Prop where
  ordered : s.alc.Ordered
  stale : s.places .staleCradle = s.someStale.toNat
  blocked : s.places .blocked = s.crm.blocked.toNat
  silent : s.places .gaugeSilent = s.ptr.gaugeSilent.toNat
  unbound : ∀ c, (s.cradle c).state = .stale → (s.cradle c).recipe = none

/-- The records agree after an operation, with the level in STOP exactly when it was before, and the saved mode and
the hold reason STOP as they were. -/
structure AlertsFollow (s t : State) : Prop where
  kept : RecordsKept t
  stops : t.alc.stops ↔ s.alc.stops
  savedMode : t.alc.savedMode = s.alc.savedMode
  holdStop : t.ptr.holdStop = s.ptr.holdStop

theorem RecordsKept.follow {s : State} (h : RecordsKept s) : AlertsFollow s s := ⟨h, Iff.rfl, rfl, rfl⟩

theorem AlertsFollow.trans {s t u : State} (h : AlertsFollow s t) (k : AlertsFollow t u) : AlertsFollow s u :=
  ⟨k.kept, k.stops.trans h.stops, k.savedMode.trans h.savedMode, k.holdStop.trans h.holdStop⟩

/-! ## STALE cradles -/

/-- The cradles are STALE after an operation exactly when they were, and bound to no recipe then. -/
def StaleKept (s t : State) : Prop :=
  ∀ c, ((t.cradle c).state = .stale ↔ (s.cradle c).state = .stale) ∧
    ((t.cradle c).state = .stale → (t.cradle c).recipe = none)

theorem State.someStale_iff (s : State) : s.someStale = true ↔ ∃ c, (s.cradle c).state = .stale := by
  constructor
  · intro h
    simp only [State.someStale, Bool.or_eq_true, beq_iff_eq] at h
    exact h.elim (fun a => ⟨.a, a⟩) (fun b => ⟨.b, b⟩)
  · rintro ⟨c, h⟩
    cases c <;> simp_all [State.someStale, State.cradle]

theorem StaleKept.someStale {s t : State} (h : StaleKept s t) : t.someStale = s.someStale := by
  rw [Bool.eq_iff_iff, State.someStale_iff, State.someStale_iff]
  exact exists_congr fun c => (h c).1

theorem RecordsKept.staleKept {s t : State} (h : RecordsKept s) (same : ∀ c, t.cradle c = s.cradle c) :
    StaleKept s t := fun c => by
  rw [same]
  exact ⟨Iff.rfl, h.unbound c⟩

/-- The two positions are all there are. -/
theorem forall_cradle_iff {P : Cradle → Prop} (c : Cradle) : (∀ d, P d) ↔ P c ∧ P (otherCradle c) := by
  constructor
  · exact fun h => ⟨h _, h _⟩
  · rintro ⟨h, k⟩ d
    cases c <;> cases d <;> assumption

/-- One cradle may change so long as it does not come to be STALE or cease to be. -/
theorem RecordsKept.staleKept_of_one {s t : State} (h : RecordsKept s) {c : Cradle}
    (other : t.cradle (otherCradle c) = s.cradle (otherCradle c))
    (state : (t.cradle c).state = .stale ↔ (s.cradle c).state = .stale)
    (recipe : (t.cradle c).state = .stale → (t.cradle c).recipe = (s.cradle c).recipe) : StaleKept s t := by
  refine (forall_cradle_iff c).mpr ⟨⟨state, fun e => ?_⟩, ?_⟩
  · rw [recipe e]
    exact h.unbound c (state.mp e)
  · rw [other]
    exact ⟨Iff.rfl, h.unbound _⟩

/-! ## The ways a record may change -/

/-- Where nothing of the conditions changes, a notice that may be lost keeps the records. -/
theorem RecordsKept.of_mayLose {s t : State} (h : RecordsKept s) (alc : s.alc.MayLose t.alc)
    (cradles : StaleKept s t) (blocked : t.crm.blocked = s.crm.blocked)
    (ptr : t.ptr.gaugeSilent = s.ptr.gaugeSilent ∧ t.ptr.holdStop = s.ptr.holdStop) : AlertsFollow s t where
  kept :=
    { ordered := h.ordered.mayLose alc
      stale := by rw [State.places_eq, alc.places (by simp), cradles.someStale]; exact h.stale
      blocked := by rw [State.places_eq, alc.places (by simp), blocked]; exact h.blocked
      silent := by rw [State.places_eq, alc.places (by simp), ptr.1]; exact h.silent
      unbound := fun c => (cradles c).2 }
  stops := alc.stops
  savedMode := alc.frame.2.2.1
  holdStop := ptr.2

/-- Where neither the records nor the conditions change, but for the REFUSE pulse. -/
theorem RecordsKept.of_same {s t : State} (h : RecordsKept s)
    (alc : t.alc = { s.alc with refuse := t.alc.refuse })
    (cradles : StaleKept s t) (blocked : t.crm.blocked = s.crm.blocked)
    (ptr : t.ptr.gaugeSilent = s.ptr.gaugeSilent ∧ t.ptr.holdStop = s.ptr.holdStop) : AlertsFollow s t where
  kept :=
    { ordered := by rw [alc]; exact { h.ordered with }
      stale := by rw [cradles.someStale, State.places_eq, alc]; exact h.stale
      blocked := by rw [blocked, State.places_eq, alc]; exact h.blocked
      silent := by rw [ptr.1, State.places_eq, alc]; exact h.silent
      unbound := fun c => (cradles c).2 }
  stops := by rw [alc]; exact Iff.rfl
  savedMode := by rw [alc]
  holdStop := ptr.2

/-- Operations on blocks that the records do not read. -/
theorem RecordsKept.of_elsewhere {s t : State} (h : RecordsKept s) (alc : t.alc = s.alc)
    (crm : t.crm = s.crm) (ptr : t.ptr.gaugeSilent = s.ptr.gaugeSilent ∧ t.ptr.holdStop = s.ptr.holdStop) : AlertsFollow s t :=
  h.of_same (by rw [alc]) (h.staleKept fun c => State.cradle_congr c crm) (by rw [crm]) ptr

theorem RecordsKept.joinNotice {s : State} (h : RecordsKept s) (n : Notice) :
    AlertsFollow s (s.joinNotice n) :=
  h.of_mayLose (s.joinNotice_mayLose n) (h.staleKept fun c => State.cradle_congr c (by simp)) (by simp)
    (by simp)

theorem RecordsKept.queueAlert {s : State} (h : RecordsKept s) : AlertsFollow s s.queueAlert :=
  h.of_mayLose s.queueAlert_mayLose (h.staleKept fun c => State.cradle_congr c (by simp)) (by simp)
    (by simp)

theorem RecordsKept.discardNotice {s : State} (h : RecordsKept s) : AlertsFollow s s.discardNotice :=
  h.of_mayLose s.discardNotice_mayLose (h.staleKept fun c => State.cradle_congr c (by simp)) (by simp)
    (by simp)

/-- An event cause of level 1 changes no condition (R117, R118). -/
theorem RecordsKept.raise1 {s : State} (h : RecordsKept s) {c : Cause} (param : BitVec 12)
    (level1 : c.isStop = false) (event : c.isCondition = false) : AlertsFollow s (s.raise1 c param) := by
  have ne : ∀ d : Cause, d.isCondition = true → c ≠ d := fun d cond e =>
    Bool.false_ne_true (event.symm.trans (e ▸ cond))
  have attended : AlertsFollow s (s.setAlc (s.alc.attend ⟨c, param, s.stamp⟩)) :=
    { kept :=
        { ordered := h.ordered.attend level1
          stale := (AlertController.places_attend_of_ne _ (ne .staleCradle rfl)).trans h.stale
          blocked := (AlertController.places_attend_of_ne _ (ne .blocked rfl)).trans h.blocked
          silent := (AlertController.places_attend_of_ne _ (ne .gaugeSilent rfl)).trans h.silent
          unbound := h.unbound }
      stops := AlertController.stops_attend level1
      savedMode := (s.alc.attend_frame _).2.2.1
      holdStop := rfl }
  exact attended.trans (attended.kept.of_mayLose (s.raise1_mayLose c param)
    (attended.kept.staleKept fun c => State.cradle_congr c (by simp)) (by simp) (by simp))

/-! ## Recipes and cradles -/

theorem State.afterLoss_stale {s : State} (h : RecordsKept s) (c : Cradle) : StaleKept s (s.afterLoss c) := by
  obtain ⟨self, other, -⟩ := s.afterLoss_cradle c
  refine h.staleKept_of_one other ?_ ?_ <;> rw [self] <;> (repeat' split) <;>
    simp_all [CradleRec.building] <;> rename_i building _ <;> rcases building with e | e <;> simp [e]

theorem RecordsKept.afterLoss {s : State} (h : RecordsKept s) (c : Cradle) : AlertsFollow s (s.afterLoss c) :=
  h.of_same (by simp) (State.afterLoss_stale h c) (s.afterLoss_blocked c) (by simp)

/-- A cradle may change so long as it does not come to be STALE or cease to be. -/
theorem RecordsKept.setCradle {s : State} (h : RecordsKept s) {c : Cradle} {r : CradleRec}
    (state : r.state = .stale ↔ (s.cradle c).state = .stale)
    (recipe : r.state = .stale → r.recipe = (s.cradle c).recipe) : AlertsFollow s (s.setCradle c r) :=
  h.of_same (by simp) (h.staleKept_of_one (c := c) (by simp) (by simpa using state) (by simpa using recipe))
    (by simp) (by simp)

theorem RecordsKept.uncommit {s : State} (h : RecordsKept s) (c : Cradle) (n : Nat) :
    AlertsFollow s (s.uncommit c n) := by
  unfold State.uncommit
  split
  · exact h.follow
  · have less := h.setCradle (c := c) (r := { s.cradle c with committed := (s.cradle c).committed - n })
      Iff.rfl fun _ => rfl
    exact less.trans (less.kept.afterLoss c)

theorem RecordsKept.onRecipe {s : State} (h : RecordsKept s) (i : Nat) (f : Recipe → Recipe) :
    AlertsFollow s (s.onRecipe i f) := h.of_elsewhere rfl rfl ⟨rfl, rfl⟩

theorem RecordsKept.completionReport {s : State} (h : RecordsKept s) (i : Nat) :
    AlertsFollow s (s.completionReport i) := by
  unfold State.completionReport
  split
  · exact h.follow
  · have report := h.onRecipe i
    dsimp only
    split
    · exact (report _).trans ((report _).kept.joinNotice _)
    · exact report _

/-- A cradle that is bound to a recipe may complete (R70). -/
theorem RecordsKept.complete {s : State} (h : RecordsKept s) {c : Cradle} (how : Completion)
    (state : (s.cradle c).state ≠ .stale) : AlertsFollow s (s.complete c how) := by
  have entered := h.setCradle (c := c) (r := { s.cradle c with state := .complete, completion := some how })
    (iff_of_false (by simp) state) fun e => absurd e (by simp)
  have reported : ∀ t, AlertsFollow s t → ∀ o : Option Nat, AlertsFollow s (match o with
      | none => t
      | some i => t.completionReport i) := by
    intro t follow o
    cases o with
    | none => exact follow
    | some i => exact follow.trans (follow.kept.completionReport i)
  have queued := fun o n => (reported _ entered o).trans ((reported _ entered o).kept.joinNotice n)
  unfold State.complete
  exact (queued _ _).trans ((queued _ _).kept.setCradle Iff.rfl fun _ => rfl)

/-- A landing at a cradle that is not STALE or is bound to nothing (R67). -/
theorem RecordsKept.land {s : State} (h : RecordsKept s) (e : Claim) (verified : Bool) :
    AlertsFollow s (s.land e verified) := by
  have pushed := h.setCradle (c := e.cradle) (r := { s.cradle e.cradle with
    stack := e.landed verified :: (s.cradle e.cradle).stack
    committed := (s.cradle e.cradle).committed - 1 }) Iff.rfl fun _ => rfl
  unfold State.land
  dsimp only
  split
  · exact pushed
  · rename_i bound
    split
    · refine pushed.trans (pushed.kept.complete .full ?_)
      intro stale
      rw [State.setCradle_cradle] at stale
      have unbound := h.unbound e.cradle stale
      simp [State.boundRecipe, unbound] at bound
    · exact pushed

/-! ## The mode and BLOCKED -/

theorem RecordsKept.changeMode {s : State} (h : RecordsKept s) (m : Mode) :
    AlertsFollow s (s.changeMode m) := h.of_elsewhere (by simp) (by simp) (by simp)

theorem RecordsKept.reviewIdle {s : State} (h : RecordsKept s) : AlertsFollow s s.reviewIdle :=
  h.of_elsewhere (by simp) (by simp) (by simp)

theorem State.setHoldBlocked_silent (s : State) (v : Bool) :
    (s.setHoldBlocked v).ptr.gaugeSilent = s.ptr.gaugeSilent ∧
      (s.setHoldBlocked v).ptr.holdStop = s.ptr.holdStop := by
  rw [(s.setHold_ptr v).1]
  exact ⟨rfl, rfl⟩

/-- BLOCKED begins: its cause stands in one place (R78, R118). -/
theorem RecordsKept.beginBlocked {s : State} (h : RecordsKept s) (open_ : s.crm.blocked = false) :
    AlertsFollow s ((s.setCrm { s.crm with blocked := true }).raise1 .blocked 0) := by
  have none : s.alc.places .blocked = 0 := by simpa [State.places_eq, open_] using h.blocked
  have attended : AlertsFollow s ((s.setCrm { s.crm with blocked := true }).setAlc
      (s.alc.attend ⟨.blocked, 0, s.stamp⟩)) :=
    { kept :=
        { ordered := h.ordered.attend rfl
          stale := (AlertController.places_attend_of_ne _ (by simp)).trans h.stale
          blocked := AlertController.places_attend_self rfl none
          silent := (AlertController.places_attend_of_ne _ (by simp)).trans h.silent
          unbound := h.unbound }
      stops := AlertController.stops_attend rfl
      savedMode := (s.alc.attend_frame _).2.2.1
      holdStop := rfl }
  exact attended.trans (attended.kept.of_mayLose ((s.setCrm { s.crm with blocked := true }).raise1_mayLose .blocked 0)
    (attended.kept.staleKept fun c => State.cradle_congr c (by simp)) (by simp) (by simp))

/-- BLOCKED ends: its cause stands nowhere (R78, R120). -/
theorem RecordsKept.endBlocked {s : State} (h : RecordsKept s) :
    AlertsFollow s ((s.setCrm { s.crm with blocked := false }).endCondition .blocked) := by
  obtain ⟨ordered, stops⟩ := h.ordered.drop (c := .blocked) rfl
  have once : s.alc.places .blocked ≤ 1 := by
    rw [← State.places_eq, h.blocked]
    exact Bool.toNat_le _
  have dropped : AlertsFollow s ((s.setCrm { s.crm with blocked := false }).setAlc (s.alc.drop .blocked)) :=
    { kept :=
        { ordered := ordered
          stale := (AlertController.places_drop_of_ne (by simp)).trans h.stale
          blocked := h.ordered.places_drop_self rfl once
          silent := (AlertController.places_drop_of_ne (by simp)).trans h.silent
          unbound := h.unbound }
      stops := stops
      savedMode := (s.alc.drop_frame _).2.1
      holdStop := rfl }
  exact dropped.trans (dropped.kept.of_mayLose
    ((s.setCrm { s.crm with blocked := false }).endCondition_mayLose .blocked)
    (dropped.kept.staleKept fun c => State.cradle_congr c (by simp)) (by simp) (by simp))

theorem RecordsKept.reviewBlocked {s : State} (h : RecordsKept s) : AlertsFollow s s.reviewBlocked := by
  have held : ∀ t v, AlertsFollow s t → AlertsFollow s (t.setHoldBlocked v) := fun t v follow =>
    follow.trans (follow.kept.of_elsewhere (by simp) (by simp) (t.setHoldBlocked_silent v))
  unfold State.reviewBlocked
  split
  · exact h.follow
  · rename_i differs
    split
    · rename_i now
      exact held _ _ (h.beginBlocked (Bool.eq_false_iff.mpr fun e => differs (now.trans e.symm)))
    · exact held _ _ h.endBlocked

theorem RecordsKept.settle {s : State} (h : RecordsKept s) : AlertsFollow s s.settle :=
  h.reviewIdle.trans h.reviewIdle.kept.reviewBlocked

/-! ## GAUGE-SILENT and STALE-CRADLE -/

/-- GAUGE-SILENT begins: its cause stands in one place (R12, R118). -/
theorem RecordsKept.beginSilent {s t : State} (h : RecordsKept s) (heard : s.ptr.gaugeSilent = false)
    (alc : t.alc = s.alc) (crm : t.crm = s.crm) (silent : t.ptr.gaugeSilent = true)
    (hold : t.ptr.holdStop = s.ptr.holdStop) (param : BitVec 12) :
    AlertsFollow s (t.raise1 .gaugeSilent param) := by
  have none : s.alc.places .gaugeSilent = 0 := by simpa [State.places_eq, heard] using h.silent
  have cradles : ∀ c, t.cradle c = s.cradle c := fun c => State.cradle_congr c crm
  have attended : AlertsFollow s (t.setAlc (t.alc.attend ⟨.gaugeSilent, param, t.stamp⟩)) :=
    { kept :=
        { ordered := by rw [alc]; exact h.ordered.attend rfl
          stale := by
            rw [State.someStale_setAlc, State.someStale_congr crm, alc]
            exact (AlertController.places_attend_of_ne _ (by simp)).trans h.stale
          blocked := by
            rw [State.setAlc_crm, crm, alc]
            exact (AlertController.places_attend_of_ne _ (by simp)).trans h.blocked
          silent := by
            rw [State.setAlc_ptr, silent, alc]
            exact AlertController.places_attend_self rfl none
          unbound := fun c => by
            rw [State.cradle_congr (s := s) c (by simpa using crm)]
            exact h.unbound c }
      stops := by rw [State.setAlc_alc, alc]; exact AlertController.stops_attend rfl
      savedMode := by rw [State.setAlc_alc, alc]; exact (s.alc.attend_frame _).2.2.1
      holdStop := hold }
  exact attended.trans (attended.kept.of_mayLose (t.raise1_mayLose .gaugeSilent param)
    (attended.kept.staleKept fun c => State.cradle_congr c (by simp)) (by simp) (by simp))

/-- A condition other than BLOCKED ends: its cause stands nowhere (R120). -/
theorem RecordsKept.endSilent {s t : State} (h : RecordsKept s) (alc : t.alc = s.alc) (crm : t.crm = s.crm)
    (silent : t.ptr.gaugeSilent = false) (hold : t.ptr.holdStop = s.ptr.holdStop) :
    AlertsFollow s (t.endCondition .gaugeSilent) := by
  obtain ⟨ordered, stops⟩ := h.ordered.drop (c := .gaugeSilent) rfl
  have once : s.alc.places .gaugeSilent ≤ 1 := by
    rw [← State.places_eq, h.silent]
    exact Bool.toNat_le _
  have dropped : AlertsFollow s (t.setAlc (s.alc.drop .gaugeSilent)) :=
    { kept :=
        { ordered := ordered
          stale := by
            rw [State.someStale_setAlc, State.someStale_congr crm]
            exact (AlertController.places_drop_of_ne (by simp)).trans h.stale
          blocked := by
            rw [State.setAlc_crm, crm]
            exact (AlertController.places_drop_of_ne (by simp)).trans h.blocked
          silent := by
            rw [State.setAlc_ptr, silent]
            exact h.ordered.places_drop_self rfl once
          unbound := fun c => by
            rw [State.cradle_congr (s := s) c (by simpa using crm)]
            exact h.unbound c }
      stops := stops
      savedMode := (s.alc.drop_frame _).2.1
      holdStop := hold }
  have lost := t.endCondition_mayLose .gaugeSilent
  rw [alc] at lost
  exact dropped.trans (dropped.kept.of_mayLose lost
    (dropped.kept.staleKept fun c => State.cradle_congr c (by simp)) (by simp) (by simp))

/-- The last STALE cradle is lifted out, and STALE-CRADLE ends (R63). -/
theorem RecordsKept.removeStale {s : State} (h : RecordsKept s) {c : Cradle}
    (stale : (s.cradle c).state = .stale) : AlertsFollow s (s.removeStale c) := by
  have was : s.someStale = true := s.someStale_iff.mpr ⟨c, stale⟩
  have unbound : ∀ d, ((s.setCradle c { s.cradle c with state := .absent }).cradle d).state = .stale →
      ((s.setCradle c { s.cradle c with state := .absent }).cradle d).recipe = none :=
    (forall_cradle_iff c).mpr ⟨by simp, by simpa using h.unbound _⟩
  unfold State.removeStale
  dsimp only
  split
  · rename_i still
    exact
      { kept :=
          { ordered := by simpa using h.ordered
            stale := by
              rw [still, ← was, State.places_eq]
              simpa [State.places_eq] using h.stale
            blocked := by
              rw [State.places_eq]
              simpa [State.places_eq] using h.blocked
            silent := by
              rw [State.places_eq]
              simpa [State.places_eq] using h.silent
            unbound := unbound }
        stops := by simp
        savedMode := by simp
        holdStop := by simp }
  · rename_i last
    obtain ⟨ordered, stops⟩ := h.ordered.drop (c := .staleCradle) rfl
    have once : s.alc.places .staleCradle ≤ 1 := by
      rw [← State.places_eq, h.stale]
      exact Bool.toNat_le _
    have dropped : AlertsFollow s ((s.setCradle c { s.cradle c with state := .absent }).setAlc
        (s.alc.drop .staleCradle)) :=
      { kept :=
          { ordered := ordered
            stale := by
              rw [State.someStale_setAlc, Bool.eq_false_iff.mpr last]
              exact h.ordered.places_drop_self rfl once
            blocked := by
              rw [State.setAlc_crm, State.setCradle_blocked]
              exact (AlertController.places_drop_of_ne (by simp)).trans h.blocked
            silent := by
              rw [State.setAlc_ptr, (s.setCradle_frame _ _).1]
              exact (AlertController.places_drop_of_ne (by simp)).trans h.silent
            unbound := unbound }
        stops := stops
        savedMode := (s.alc.drop_frame _).2.1
        holdStop := by simp }
    have lost := (s.setCradle c { s.cradle c with state := .absent }).endCondition_mayLose .staleCradle
    rw [(s.setCradle_frame _ _).2.2.2.2.2.1] at lost
    exact dropped.trans (dropped.kept.of_mayLose lost
      (dropped.kept.staleKept fun c => State.cradle_congr c (by simp)) (by simp) (by simp))

end Sys2Proof.Machine
end

section
/-! Every command keeps the alert records in agreement (O6): STOP on its own, and the other operations by what they
leave of the mode, the gate lock and the claims. -/

namespace Sys2Proof.Machine

/-- The mode, the saved mode, the gate, the claims and the hold reason STOP against the level (R98, R121 to R124). -/
structure StopKept (s : State) : Prop where
  mode : s.mdc.mode = .stopped ↔ s.alc.stops
  savedMode : s.alc.savedMode.isSome = true ↔ s.alc.stops
  notStopped : s.alc.savedMode ≠ some .stopped
  gate : s.drc.gateLock = true ↔ s.alc.stops
  claims : s.alc.stops → s.drc.claims = []
  hold : s.ptr.holdStop = true → s.alc.stops

theorem alertsAgree_iff (s : State) (unbound : ∀ c, (s.cradle c).state = .stale → (s.cradle c).recipe = none) :
    AlertsAgree s ↔ RecordsKept s ∧ StopKept s := by
  simp only [AlertsAgree, State.level_eq_stop_iff_stops, Ne]
  constructor
  · rintro ⟨pend1, pend2, level1, level2, saved, behind, mode, savedMode, notStopped, quiet, gate, claims, hold,
      stale, blocked, silent⟩
    exact ⟨⟨⟨pend1, pend2, level1, level2, saved, behind, quiet⟩, stale, blocked, silent, unbound⟩,
      ⟨mode, savedMode, notStopped, gate, claims, hold⟩⟩
  · rintro ⟨⟨⟨pend1, pend2, level1, level2, saved, behind, quiet⟩, stale, blocked, silent, -⟩,
      ⟨mode, savedMode, notStopped, gate, claims, hold⟩⟩
    exact ⟨pend1, pend2, level1, level2, saved, behind, mode, savedMode, notStopped, quiet, gate, claims, hold,
      stale, blocked, silent⟩

/-- The two parts of the agreement, with the books' word on STALE cradles. -/
def AlertsKept (s : State) : Prop := RecordsKept s ∧ StopKept s

theorem AlertsKept.agree {s : State} (h : AlertsKept s) : AlertsAgree s :=
  (alertsAgree_iff s h.1.unbound).mpr h

/-- In a sound state a STALE cradle is bound to no recipe (R56, R62). -/
theorem Books.unbound {s : State} (h : Books s) (c : Cradle) (stale : (s.cradle c).state = .stale) :
    (s.cradle c).recipe = none := by
  obtain ⟨⟨shapeA, -⟩, ⟨shapeB, -⟩, -⟩ := h
  have shape : (s.cradle c).shape ((s.boundRecipe (s.cradle c)).map (·.n)) = true := by
    cases c
    · exact shapeA
    · exact shapeB
  unfold CradleRec.shape at shape
  rw [stale] at shape
  cases k : (s.boundRecipe (s.cradle c)).map (·.n) with
  | none =>
    simp only [k, Bool.and_eq_true, Option.isNone_iff_eq_none] at shape
    obtain ⟨⟨⟨⟨recipe, -⟩, -⟩, -⟩, -⟩ := shape
    exact recipe
  | some n => simp [k] at shape

theorem Sound.alertsKept {s : State} (h : Sound s) : AlertsKept s :=
  (alertsAgree_iff s h.1.unbound).mp h.2.1

theorem StopKept.follow {s t : State} (h : StopKept s) (f : AlertsFollow s t)
    (mode : t.mdc.mode = .stopped ↔ s.mdc.mode = .stopped) (gate : t.drc.gateLock = s.drc.gateLock)
    (claims : s.alc.stops → s.drc.claims = [] → t.drc.claims = []) : StopKept t where
  mode := mode.trans (h.mode.trans f.stops.symm)
  savedMode := by rw [f.savedMode, f.stops]; exact h.savedMode
  notStopped := by rw [f.savedMode]; exact h.notStopped
  gate := by rw [gate, f.stops]; exact h.gate
  claims := fun e => claims (f.stops.mp e) (h.claims (f.stops.mp e))
  hold := by rw [f.holdStop, f.stops]; exact h.hold

/-- The agreement follows where the mode, the gate and the claims are kept. -/
theorem AlertsKept.follow {s t : State} (h : AlertsKept s) (f : AlertsFollow s t)
    (mode : t.mdc.mode = .stopped ↔ s.mdc.mode = .stopped) (gate : t.drc.gateLock = s.drc.gateLock)
    (claims : s.alc.stops → s.drc.claims = [] → t.drc.claims = []) : AlertsKept t :=
  ⟨f.kept, h.2.follow f mode gate claims⟩

theorem AlertsKept.follow_same {s t : State} (h : AlertsKept s) (f : AlertsFollow s t)
    (mdc : t.mdc = s.mdc) (drc : t.drc = s.drc) : AlertsKept t :=
  h.follow f (by rw [mdc]) (by rw [drc]) (fun _ e => by rw [drc, e])

/-- The test for IDLE never enters or leaves STOPPED (R162, R163). -/
theorem State.reviewIdle_stopped (s : State) : s.reviewIdle.mdc.mode = .stopped ↔ s.mdc.mode = .stopped := by
  rw [State.reviewIdle_mdc]
  dsimp only
  split
  · rename_i idle
    rcases State.mode_of_idleNow idle with e | e <;> simp [e]
  · rfl

theorem State.settle_stopped (s : State) : s.settle.mdc.mode = .stopped ↔ s.mdc.mode = .stopped := by
  rw [State.settle, (State.reviewBlocked_frame _).2.2.2.2.1]
  exact s.reviewIdle_stopped

theorem AlertsKept.settle {s t : State} (h : AlertsKept s) (f : AlertsFollow s t)
    (mode : t.mdc.mode = .stopped ↔ s.mdc.mode = .stopped) (gate : t.drc.gateLock = s.drc.gateLock)
    (claims : s.alc.stops → s.drc.claims = [] → t.drc.claims = []) : AlertsKept t.settle :=
  h.follow (f.trans f.kept.settle) (t.settle_stopped.trans mode) (by simpa using gate) (by simpa using claims)

/-! ## The entry to STOP -/

/-- A level-2 cause stands for no condition (R116, R117). -/
theorem Cause.ne_condition_of_isStop {c d : Cause} (isStop : c.isStop = true) (cond : d.isCondition = true) :
    c ≠ d := by
  rintro rfl
  revert isStop cond
  cases c <;> decide

/-- The cause becomes current above the record it saves (R121). -/
theorem AlertController.Ordered.enterStop {x : AlertController} (o : x.Ordered) (quiet : ¬ x.stops) {r : Record}
    (h : r.cause.isStop = true) :
    ({ x with saved := x.current, current := some r } : AlertController).Ordered ∧
      ({ x with saved := x.current, current := some r } : AlertController).stops := by
  have stops : ({ x with saved := x.current, current := some r } : AlertController).stops := ⟨r, rfl, h⟩
  refine ⟨{ o with
    saved := fun q m => ?_
    behind := fun e => absurd e (by simp)
    quiet := fun e => absurd stops e }, stops⟩
  cases isStop : q.cause.isStop with
  | false => rfl
  | true => exact absurd ⟨q, m, isStop⟩ quiet

theorem AlertController.places_enterStop {x : AlertController} {r : Record} {c : Cause} (h : r.cause ≠ c)
    (saved : x.saved = none) :
    ({ x with saved := x.current, current := some r } : AlertController).places c = x.places c := by
  simp [AlertController.places_eq, h, saved]

theorem RecordsKept.recordStop {s : State} (h : RecordsKept s) (quiet : ¬ s.alc.stops) {c : Cause}
    (param : BitVec 12) (isStop : c.isStop = true) :
    RecordsKept (s.recordStop c param) ∧ (s.recordStop c param).alc.stops := by
  have event := fun (d : Cause) => Cause.ne_condition_of_isStop (d := d) isStop
  obtain ⟨ordered, stops⟩ := h.ordered.enterStop quiet (r := ⟨c, param, s.stamp⟩) isStop
  have saved := (h.ordered.quiet quiet).1
  have current : RecordsKept (s.setAlc { s.alc with saved := s.alc.current, current := some ⟨c, param, s.stamp⟩ }) :=
    { ordered := ordered
      stale := (AlertController.places_enterStop (event .staleCradle rfl) saved).trans h.stale
      blocked := (AlertController.places_enterStop (event .blocked rfl) saved).trans h.blocked
      silent := (AlertController.places_enterStop (event .gaugeSilent rfl) saved).trans h.silent
      unbound := h.unbound }
  exact ⟨current.queueAlert.kept, current.queueAlert.stops.mpr stops⟩

theorem RecordsKept.reofferAll {s : State} (h : RecordsKept s) (l : List Stem) :
    AlertsFollow s (s.reofferAll l) := h.of_elsewhere (by simp) (by simp) (by simp)

theorem RecordsKept.stopForfeit {s : State} (h : RecordsKept s) : AlertsFollow s s.stopForfeit := by
  have drained : AlertsFollow s ((s.setDrc { s.drc with claims := [], gateLock := true }).reofferAll
      (s.drc.claims.map (·.stem))) := h.of_elsewhere (by simp) (by simp) (by simp)
  have a := drained.kept.uncommit .a (s.claimCount .a)
  exact (drained.trans a).trans (a.kept.uncommit .b _)

theorem AlertsKept.enterStop {s : State} (h : AlertsKept s) (quiet : ¬ s.alc.stops) {c : Cause}
    (param : BitVec 12) (isStop : c.isStop = true) : AlertsKept (s.enterStop c param) := by
  obtain ⟨recorded, stops⟩ := h.1.recordStop quiet param isStop
  have saved : RecordsKept (s.recordStop c param).saveMode := { recorded with ordered := { recorded.ordered with } }
  have mode := saved.changeMode .stopped
  have gone := mode.trans mode.kept.stopForfeit
  have held : RecordsKept ((s.recordStop c param).saveMode.changeMode .stopped).stopForfeit.holdForStop := by
    unfold State.holdForStop
    split
    · have ptr := (State.setHold_ptr ((s.recordStop c param).saveMode.changeMode .stopped).stopForfeit true).2
      exact { gone.kept with
        ordered := by simpa using gone.kept.ordered
        stale := by simpa [State.places_eq, State.someStale] using gone.kept.stale
        blocked := by simpa [State.places_eq] using gone.kept.blocked
        silent := by rw [ptr]; simpa [State.places_eq] using gone.kept.silent
        unbound := fun c => by
          rw [State.cradle_congr c (State.setHoldStop_frame _ _).2.2.2.2.1]
          exact gone.kept.unbound c }
    · exact gone.kept
  have same : ((s.recordStop c param).saveMode.changeMode .stopped).stopForfeit.holdForStop.alc =
      (s.recordStop c param).saveMode.alc := by
    unfold State.holdForStop
    split <;> simp
  have final := held.reviewBlocked
  rw [State.enterStop_eq]
  have does := s.enterStop_does c param
  rw [State.enterStop_eq] at does
  obtain ⟨mdc, drc⟩ := does
  have stopsAll := final.stops.mpr (by rw [same]; exact stops)
  have savedMode := final.savedMode.trans (congrArg AlertController.savedMode same)
  have moving : s.mdc.mode ≠ .stopped := fun e => quiet (h.2.mode.mp e)
  refine ⟨final.kept,
    { mode := iff_of_true (by rw [mdc]) stopsAll
      savedMode := iff_of_true (by rw [savedMode]; rfl) stopsAll
      notStopped := by
        rw [savedMode, (State.saveMode_frame _).2]
        simpa using moving
      gate := iff_of_true (by rw [drc]) stopsAll
      claims := fun _ => by rw [drc]
      hold := fun _ => stopsAll }⟩

/-- A level-2 cause that waits in the level-2 set changes nothing else (R122). -/
theorem AlertsKept.putPend2 {s : State} (h : AlertsKept s) (stops : s.alc.stops) {r : Record}
    (isStop : r.cause.isStop = true) :
    AlertsKept (s.setAlc { s.alc with pend2 := putRecord r s.alc.pend2 }) := by
  obtain ⟨records, stop⟩ := h
  have event := fun (d : Cause) => Cause.ne_condition_of_isStop (d := d) isStop
  have places : ∀ c, c.isCondition = true →
      ({ s.alc with pend2 := putRecord r s.alc.pend2 } : AlertController).places c = s.alc.places c := by
    intro c cond
    simp [AlertController.places_eq, countCause_putRecord_of_ne (event c cond)]
  refine ⟨
    { ordered := { records.ordered with
        pend2 := inCodeOrder_putRecord records.ordered.pend2
        level2 := fun q m => (mem_putRecord m).elim (fun e => e ▸ isStop) (records.ordered.level2 q)
        quiet := fun e => absurd stops e }
      stale := (places .staleCradle rfl).trans records.stale
      blocked := (places .blocked rfl).trans records.blocked
      silent := (places .gaugeSilent rfl).trans records.silent
      unbound := records.unbound }, { stop with }⟩

theorem AlertsKept.raise2 {s : State} (h : AlertsKept s) {c : Cause} (param : BitVec 12)
    (isStop : c.isStop = true) : AlertsKept (s.raise2 c param) := by
  by_cases level : s.level = .stop
  · rw [State.raise2_in_stop c param level]
    exact h.putPend2 (s.level_eq_stop_iff_stops.mp level) isStop
  · rw [State.raise2_of_not_stop c param level]
    exact AlertsKept.enterStop h (s.level_eq_stop_iff_stops.not.mp level) param isStop

/-! ## The end of STOP -/

/-- The record that follows a level-2 record is of level 1 or none (R123). -/
theorem AlertController.Ordered.resume {x : AlertController} (o : x.Ordered) (empty : x.pend2 = []) :
    x.resume.Ordered ∧ ¬ x.resume.stops := by
  unfold AlertController.resume
  cases saved : x.saved with
  | some r =>
    have level1 := o.saved r saved
    have quiet : ¬ ({ x with current := some r, saved := none } : AlertController).stops := by
      rintro ⟨q, e, isStop⟩
      injection e with e
      exact Bool.false_ne_true (level1.symm.trans (e ▸ isStop))
    exact ⟨{ o with
      saved := fun q m => absurd m (by simp)
      behind := fun e => absurd e (by simp)
      quiet := fun _ => ⟨rfl, empty⟩ }, quiet⟩
  | none =>
    have quiet : ¬ x.retire.stops := by
      rintro ⟨r, current, isStop⟩
      have m : r ∈ x.pend1 := List.mem_of_mem_head? (by simpa [AlertController.retire] using current)
      exact Bool.false_ne_true ((o.level1 r m).symm.trans isStop)
    refine ⟨{ o with
      pend1 := inCodeOrder_sublist o.pend1 (List.tail_sublist _)
      level1 := fun r m => o.level1 r (List.mem_of_mem_tail m)
      behind := fun e => ?_
      quiet := fun _ => ⟨saved, empty⟩ }, quiet⟩
    have none : x.pend1 = [] := by simpa [AlertController.retire] using e
    simp [AlertController.retire, none]

/-- A condition stands where it stood, when the level-2 record goes (R123). -/
theorem AlertController.places_resume {x : AlertController} {r : Record} {c : Cause}
    (current : x.current = some r) (h : r.cause ≠ c) : x.resume.places c = x.places c := by
  unfold AlertController.resume
  cases saved : x.saved with
  | some q => simp [AlertController.places_eq, current, saved, h]
  | none => exact AlertController.places_retire_of_ne current h

theorem AlertsKept.endStop {s : State} (h : AlertsKept s) (stops : s.alc.stops) (empty : s.alc.pend2 = []) :
    AlertsKept s.endStop := by
  obtain ⟨r, current, isStop⟩ := stops
  obtain ⟨records, stop⟩ := h
  obtain ⟨ordered, quiet⟩ := records.ordered.resume empty
  have places := fun (d : Cause) (cond : d.isCondition = true) =>
    AlertController.places_resume current (Cause.ne_condition_of_isStop isStop cond)
  have resumed : RecordsKept (s.setAlc s.alc.resume) :=
    { ordered := ordered
      stale := (places .staleCradle rfl).trans records.stale
      blocked := (places .blocked rfl).trans records.blocked
      silent := (places .gaugeSilent rfl).trans records.silent
      unbound := records.unbound }
  have queued := resumed.queueAlert
  have returned : AlertsFollow (s.setAlc s.alc.resume) (s.setAlc s.alc.resume).queueAlert.returnMode :=
    queued.trans (queued.kept.changeMode _)
  have forgot : RecordsKept (s.setAlc s.alc.resume).queueAlert.returnMode.forgetMode :=
    { returned.kept with ordered := { returned.kept.ordered with } }
  have settled := forgot.settle
  have savedMode : s.endStop.alc.savedMode = none := by
    rw [State.endStop_eq]
    simp [State.unlock, State.forgetMode]
  have quietEnd : ¬ s.endStop.alc.stops := by
    rw [State.endStop_eq, State.unlock, (State.setHoldStop_frame _ _).2.2.2.2.2.1, State.setDrc_alc, settled.stops]
    exact returned.stops.not.mpr quiet
  have ptr : s.endStop.ptr.gaugeSilent =
      (s.setAlc s.alc.resume).queueAlert.returnMode.forgetMode.settle.ptr.gaugeSilent ∧
        s.endStop.ptr.holdStop = false := by
    rw [State.endStop_eq, State.unlock, (State.setHold_ptr _ _).2]
    exact ⟨rfl, rfl⟩
  have mode : s.endStop.mdc.mode ≠ .stopped := by
    have back : (s.setAlc s.alc.resume).queueAlert.returnMode.forgetMode.mdc.mode ≠ .stopped := by
      obtain ⟨m, saved⟩ := Option.isSome_iff_exists.mp (stop.savedMode.mpr ⟨r, current, isStop⟩)
      have notStopped := stop.notStopped
      rw [saved] at notStopped
      simpa [State.forgetMode, State.returnMode, s.alc.resume_frame, saved] using notStopped
    rw [State.endStop_eq]
    simpa [State.unlock] using (State.settle_stopped _).not.mpr back
  have crm : s.endStop.crm = (s.setAlc s.alc.resume).queueAlert.returnMode.forgetMode.settle.crm := by
    rw [State.endStop_eq]
    simp [State.unlock]
  have alc : s.endStop.alc = (s.setAlc s.alc.resume).queueAlert.returnMode.forgetMode.settle.alc := by
    rw [State.endStop_eq]
    simp [State.unlock]
  refine ⟨
    { ordered := by rw [alc]; exact settled.kept.ordered
      stale := by rw [State.someStale_congr crm, State.places_eq, alc]; exact settled.kept.stale
      blocked := by rw [crm, State.places_eq, alc]; exact settled.kept.blocked
      silent := by rw [ptr.1, State.places_eq, alc]; exact settled.kept.silent
      unbound := fun c => by rw [State.cradle_congr c crm]; exact settled.kept.unbound c },
    { mode := iff_of_false mode quietEnd
      savedMode := iff_of_false (by simp [savedMode]) quietEnd
      notStopped := by simp [savedMode]
      gate := iff_of_false (by rw [State.endStop_eq]; simp [State.unlock]) quietEnd
      claims := fun e => absurd e quietEnd
      hold := fun e => absurd (ptr.2.symm.trans e) Bool.false_ne_true }⟩

end Sys2Proof.Machine
end

section
/-! Every command keeps the alert records in agreement (O6): the commands one after another. -/

namespace Sys2Proof.Machine

/-! ## Commands on other blocks -/

/-- Commands on blocks that the alert records do not read. -/
theorem AlertsKept.elsewhere {s t : State} (h : AlertsKept s) (alc : t.alc = s.alc) (crm : t.crm = s.crm)
    (ptr : t.ptr.gaugeSilent = s.ptr.gaugeSilent ∧ t.ptr.holdStop = s.ptr.holdStop)
    (mode : t.mdc.mode = s.mdc.mode) (drc : t.drc = s.drc) : AlertsKept t :=
  h.follow (h.1.of_elsewhere alc crm ptr) (by rw [mode]) (by rw [drc]) (fun _ e => by rw [drc, e])

/-- The REFUSE pulse is no record (R132). -/
theorem AlertsKept.setRefuse {s : State} (h : AlertsKept s) (o : Option Nat) :
    AlertsKept (s.setAlc { s.alc with refuse := o }) :=
  h.follow_same (h.1.of_same rfl (h.1.staleKept fun _ => rfl) rfl ⟨rfl, rfl⟩) rfl rfl

/-- A saved mode other than STOPPED may replace the one that is saved (R158, R159, R165). -/
theorem AlertsKept.setSavedMode {s : State} (h : AlertsKept s) {m : Mode} (ne : m ≠ .stopped)
    (stopped : s.mdc.mode = .stopped) : AlertsKept (s.setAlc { s.alc with savedMode := some m }) := by
  obtain ⟨records, stop⟩ := h
  have stops := stop.mode.mp stopped
  exact ⟨{ records with ordered := { records.ordered with } },
    { stop with
      savedMode := iff_of_true rfl stops
      notStopped := by simpa using ne }⟩

/-- A change between modes other than STOPPED (R154). -/
theorem AlertsKept.changeMode {s : State} (h : AlertsKept s) {m : Mode} (was : s.mdc.mode ≠ .stopped)
    (becomes : m ≠ .stopped) : AlertsKept (s.changeMode m) :=
  h.follow (h.1.changeMode m) (iff_of_false (by simpa using becomes) was) (by simp) (by simp)

theorem AlertsKept.settled {s : State} (h : AlertsKept s) : AlertsKept s.settle :=
  h.settle h.1.follow Iff.rfl rfl fun _ e => e

theorem AlertsKept.raise1 {s : State} (h : AlertsKept s) {c : Cause} (param : BitVec 12)
    (level1 : c.isStop = false) (event : c.isCondition = false) : AlertsKept (s.raise1 c param) :=
  h.follow_same (h.1.raise1 param level1 event) (by simp) (by simp)

/-- A bidding mode is not STOPPED. -/
theorem StopKept.quiet_of_bids {s : State} (h : StopKept s) (bids : s.mdc.mode.bids = true) :
    ¬ s.alc.stops := by
  intro stops
  rw [h.mode.mpr stops] at bids
  exact absurd bids (by simp [Mode.bids])

/-! ## Pulses -/

theorem State.clearPassed_nil (s : State) : s.clearPassed [] = s := rfl

theorem State.arrival_of_no_claims {s : State} (h : s.drc.claims = []) : s.arrival = s := by
  simp [State.arrival, h, State.clearPassed_nil]

/-- Outside STOP a change of the claims is no concern of the alert records. -/
theorem AlertsKept.setDrc {s : State} (h : AlertsKept s) (quiet : ¬ s.alc.stops) {x : DropController}
    (gate : x.gateLock = s.drc.gateLock) : AlertsKept (s.setDrc x) :=
  h.follow (h.1.of_elsewhere rfl rfl ⟨rfl, rfl⟩) Iff.rfl gate fun stops => absurd stops quiet

theorem AlertsKept.uncommit {s : State} (h : AlertsKept s) (c : Cradle) (n : Nat) :
    AlertsKept (s.uncommit c n) :=
  h.follow_same (h.1.uncommit c n) (by simp) (by simp)

theorem AlertsKept.reviewIdle {s : State} (h : AlertsKept s) : AlertsKept s.reviewIdle :=
  h.follow h.1.reviewIdle s.reviewIdle_stopped (by simp) (by simp)

theorem AlertsKept.passClaim {s : State} (h : AlertsKept s) (quiet : ¬ s.alc.stops) (e : Claim)
    (rest : List Claim) : AlertsKept (s.passClaim e rest) ∧ ¬ (s.passClaim e rest).alc.stops := by
  have gone := ((h.setDrc (x := { s.drc with claims := rest }) quiet rfl).uncommit e.cradle 1).reviewIdle
  have raised := gone.1.raise1 (c := .passedClaim) e.stem.tag rfl rfl
  refine ⟨gone.raise1 _ rfl rfl, raised.stops.not.mpr ?_⟩
  simpa using quiet

theorem AlertsKept.clearPassed {s : State} (h : AlertsKept s) (quiet : ¬ s.alc.stops) (l : List Claim) :
    AlertsKept (s.clearPassed l) ∧ ¬ (s.clearPassed l).alc.stops := by
  induction l generalizing s with
  | nil => exact ⟨h, quiet⟩
  | cons e rest ih =>
    unfold State.clearPassed
    split
    · obtain ⟨kept, still⟩ := h.passClaim quiet e rest
      exact ih kept still
    · exact ⟨h, quiet⟩

theorem AlertsKept.fire {s : State} (h : AlertsKept s) (quiet : ¬ s.alc.stops) (e : Claim)
    (rest : List Claim) : AlertsKept (s.fire e rest) := by
  have aimed : AlertsKept (s.aim e rest) := h.setDrc quiet rfl
  rcases Nat.lt_or_ge s.drc.falling.length 4 with room | full
  · rw [State.fire_of_room e rest room]
    exact aimed.setDrc quiet rfl
  · rw [State.fire_of_full e rest full]
    have landed : AlertsKept ((s.aim e rest).land e false) :=
      aimed.follow_same (aimed.1.land e false) (by simp) (by simp)
    exact landed.reviewIdle.raise1 _ rfl rfl

/-- In STOP no claim is pending, and an arrival finds none (R98, R83). -/
theorem AlertsKept.arrival {s : State} (h : AlertsKept s) : AlertsKept s.arrival := by
  by_cases stops : s.alc.stops
  · rwa [State.arrival_of_no_claims (h.2.claims stops)]
  · obtain ⟨cleared, quiet⟩ := h.clearPassed stops s.drc.claims
    unfold State.arrival
    dsimp only
    split
    · exact cleared
    · split
      · exact cleared.fire quiet _ _
      · exact cleared

theorem RecordsKept.unannouncedPitch {s : State} (h : RecordsKept s) : AlertsFollow s s.unannouncedPitch := by
  by_cases eighth : s.ptr.unannounced = 7 ∧ s.ptr.gaugeSilent = false
  · rw [State.unannouncedPitch_of_eighth eighth.1 eighth.2]
    exact h.beginSilent (t := s.countPitch true) eighth.2 rfl rfl rfl rfl _
  · rw [State.unannouncedPitch_of_other eighth]
    exact h.of_elsewhere rfl rfl ⟨rfl, rfl⟩

theorem RecordsKept.endAnnouncePending {s : State} (h : RecordsKept s) :
    AlertsFollow s s.endAnnouncePending := by
  have stopped : AlertsFollow s s.stopPending := h.of_elsewhere rfl rfl ⟨rfl, rfl⟩
  cases running : s.lbi.announcePending with
  | none =>
    rw [State.endAnnouncePending_of_stopped running]
    exact h.follow
  | some since =>
    have isRunning : s.lbi.announcePending.isSome = true := by simp [running]
    cases awaited : s.ptr.announceExpected with
    | false =>
      rw [State.endAnnouncePending_of_heard isRunning awaited]
      exact stopped
    | true =>
      rw [State.endAnnouncePending_of_awaited isRunning awaited]
      exact stopped.trans stopped.kept.unannouncedPitch

theorem AlertsKept.endAnnouncePending {s : State} (h : AlertsKept s) : AlertsKept s.endAnnouncePending :=
  h.follow_same h.1.endAnnouncePending (by simp) (by simp)

theorem AlertsKept.expectAnnounce {s : State} (h : AlertsKept s) : AlertsKept s.expectAnnounce := by
  have before : AlertsKept (if s.ptr.announceExpected then s.unannouncedPitch else s) := by
    split
    · exact h.follow_same h.1.unannouncedPitch (by simp) (by simp)
    · exact h
  unfold State.expectAnnounce
  generalize (if s.ptr.announceExpected then s.unannouncedPitch else s) = u at before
  exact before.elsewhere (by simp) (by simp) (by simp) (by simp) (by simp)

theorem AlertsKept.countCoast {s : State} (h : AlertsKept s) : AlertsKept s.countCoast := by
  have counted : AlertsKept s.coastUp := h.elsewhere rfl rfl ⟨rfl, rfl⟩ rfl rfl
  cases read : s.ptr.holdRead with
  | false => rwa [State.countCoast_of_open read]
  | true =>
    by_cases fourth : s.ptr.coast = 3
    · rw [State.countCoast_of_fourth read fourth]
      exact counted.raise1 _ rfl rfl
    · rw [State.countCoast_of_other read fourth]
      exact counted

theorem AlertsKept.expire {s : State} (h : AlertsKept s) : AlertsKept s.expire :=
  h.elsewhere rfl rfl ⟨rfl, rfl⟩ rfl rfl

theorem AlertsKept.forwardPulse {s : State} (h : AlertsKept s) : AlertsKept s.forwardPulse := by
  cases synced : s.ptr.p with
  | none =>
    rw [State.forwardPulse_of_unsynced synced]
    exact h.expectAnnounce.countCoast.settled
  | some p =>
    have advanced : AlertsKept (s.advance p) := h.elsewhere rfl rfl ⟨rfl, rfl⟩ rfl rfl
    rw [State.forwardPulse_of_synced synced]
    exact advanced.arrival.expire.expectAnnounce.countCoast.settled

/-! ## Announcements and frames -/

theorem AlertsKept.frameEnd {s : State} (h : AlertsKept s) : AlertsKept s.frameEnd :=
  h.elsewhere (by simp) (by simp) (by simp) (by simp) (by simp)

theorem AlertsKept.line {s : State} (h : AlertsKept s) (st : Stem) : AlertsKept (s.line st) := by
  have resynced : AlertsKept (s.resync st.tag) := by
    cases synced : s.ptr.p with
    | none =>
      rw [State.resync_of_unsynced _ synced]
      exact h.elsewhere rfl rfl ⟨rfl, rfl⟩ rfl rfl
    | some p =>
      by_cases same : p = st.tag
      · rwa [State.resync_of_same (same ▸ synced)]
      · have slipped : AlertsKept (s.setPtr { s.ptr with p := some st.tag }) :=
          h.elsewhere rfl rfl ⟨rfl, rfl⟩ rfl rfl
        rw [State.resync_of_slip synced same]
        exact slipped.raise1 _ rfl rfl
  unfold State.line
  split
  · exact resynced.elsewhere rfl rfl ⟨rfl, rfl⟩ rfl rfl
  · exact resynced

theorem AlertsKept.announced {s : State} (h : AlertsKept s) : AlertsKept s.announced := by
  unfold State.announced
  dsimp only
  split
  · exact h.follow_same (h.1.endSilent rfl rfl rfl rfl) (by simp) (by simp)
  · rename_i heard
    refine h.elsewhere rfl rfl ⟨?_, rfl⟩ rfl rfl
    simpa using heard

theorem AlertsKept.trackAnnounce {s : State} (h : AlertsKept s) (st : Stem) :
    AlertsKept (s.trackAnnounce st) := by
  have heard := (h.line st).announced
  rw [State.trackAnnounce_eq]
  split
  · exact heard.elsewhere (by simp) (by simp) (by simp) (by simp) (by simp)
  · exact heard

theorem AlertsKept.announce {s : State} (h : AlertsKept s) (st : Stem) : AlertsKept (s.announce st) :=
  (h.frameEnd.trackAnnounce st).endAnnouncePending.elsewhere rfl rfl ⟨rfl, rfl⟩ rfl rfl

theorem AlertsKept.badFrame {s : State} (h : AlertsKept s) (kind : FrameKind) : AlertsKept (s.badFrame kind) := by
  cases kind with
  | announce => exact h.endAnnouncePending.elsewhere rfl rfl ⟨rfl, rfl⟩ rfl rfl
  | reoffer => exact h.elsewhere rfl rfl ⟨rfl, rfl⟩ rfl rfl
  | _ => exact h

theorem AlertsKept.cutShort {s : State} (h : AlertsKept s) (kind : FrameKind) : AlertsKept (s.cutShort kind) := by
  have idle : AlertsKept ((s.frameEnd.setLbi { s.frameEnd.lbi with openRun := Config.idleRun }).endLost) :=
    h.frameEnd.elsewhere (by simp) (by simp) (by simp) (by simp) (by simp)
  unfold State.cutShort
  dsimp only
  split
  · exact idle.endAnnouncePending
  · exact idle

theorem AlertsKept.announcePendingEnd {s : State} (h : AlertsKept s) : AlertsKept s.announcePendingEnd := by
  unfold State.announcePendingEnd
  split
  · exact h
  · exact (h.elsewhere rfl rfl ⟨rfl, rfl⟩ rfl rfl : AlertsKept (s.reach _)).endAnnouncePending

theorem AlertsKept.mismatch {s : State} (h : AlertsKept s) (atStart : Bool) : AlertsKept (s.mismatch atStart) := by
  have counted : ∀ t, AlertsKept t → AlertsKept t.countMismatch := by
    intro t kept
    unfold State.countMismatch
    split
    · exact kept.elsewhere rfl rfl ⟨rfl, rfl⟩ rfl rfl
    · have zero : AlertsKept (t.setLbi { t.lbi with mismatches := 0 }) := kept.elsewhere rfl rfl ⟨rfl, rfl⟩ rfl rfl
      exact zero.raise2 _ rfl
  unfold State.mismatch
  split
  · dsimp only
    refine counted _ ?_
    split
    · exact h.elsewhere (by simp) (by simp) (by simp) (by simp) (by simp)
    · exact h.elsewhere (by simp) (by simp) (by simp) (by simp) (by simp)
  · exact h

theorem AlertsKept.noticeSent {s : State} (h : AlertsKept s) : AlertsKept s.noticeSent := by
  refine h.elsewhere (by simp) (by simp) (by simp) ?_ (by simp)
  unfold State.noticeSent State.startJoinTimer
  (repeat' split) <;> simp

theorem RecordsKept.joinAll {s : State} (h : RecordsKept s) (l : List Notice) : AlertsFollow s (s.joinAll l) := by
  induction l generalizing s with
  | nil => exact h.follow
  | cons n ns ih => exact (h.joinNotice n).trans (ih (h.joinNotice n).kept)

theorem AlertsKept.queried {s : State} (h : AlertsKept s) (n : StationNo) (topic : Fin 16) :
    AlertsKept (s.queried n topic) := by
  refine h.follow_same ?_ (by simp) (by simp)
  unfold State.queried State.respond
  split
  · split
    · exact h.1.discardNotice
    · exact h.1.joinAll _
  · exact h.1.follow

/-! ## The commit -/

/-- A cradle that takes a stem is FILLING or EMPTY, and comes to be FILLING or CLOSING (R46 to R48). -/
theorem State.state_of_canTake {s : State} {c : Candidate} (h : s.canTake c = true) :
    (s.cradle c.cradle).state = .empty ∨ (s.cradle c.cradle).state = .filling := by
  unfold State.canTake at h
  dsimp only at h
  split at h
  · exact absurd h (by simp)
  · split at h
    · exact .inl (by simp_all)
    · exact .inr (by simp_all)

theorem CradleRec.commit_state (r : CradleRec) (c : Candidate) (n : Nat) :
    (r.commit c n).state = .filling ∨ (r.commit c n).state = .closing := by
  unfold CradleRec.commit
  dsimp only
  generalize (if c.opening = true then _ else _ : CradleRec) = q
  by_cases h : q.k = n <;> simp [h]

/-- The bind report of an opening candidate (R24, R48). -/
def State.bindReport (s : State) (c : Candidate) : State :=
  if c.opening then s.onRecipe c.recipe Recipe.bound else s

theorem State.commit_eq (s : State) (c : Candidate) :
    s.commit c = ((s.bindReport c).setCradle c.cradle
      (((s.bindReport c).cradle c.cradle).commit c (((s.rct[c.recipe]?).map (·.n)).getD 0))).setDrc
      { s.drc with claims := insertByTag (·.stem.tag) ⟨c.stem, c.cradle, c.kind⟩ s.drc.claims } := by
  unfold State.commit State.bindReport
  dsimp only
  split <;> simp

theorem State.bindReport_cradle (s : State) (c : Candidate) (d : Cradle) :
    (s.bindReport c).cradle d = s.cradle d := by
  unfold State.bindReport
  split
  · exact State.cradle_congr d (by simp)
  · rfl

theorem RecordsKept.commit {s : State} (h : RecordsKept s) {c : Candidate} (can : s.canTake c = true) :
    AlertsFollow s (s.commit c) := by
  have bound : AlertsFollow s (s.bindReport c) := by
    unfold State.bindReport
    split
    · exact h.onRecipe _ _
    · exact h.follow
  have notStale : ∀ r n, (CradleRec.commit r c n).state ≠ .stale := fun r n => by
    rcases r.commit_state c n with e | e <;> simp [e]
  have was : ((s.bindReport c).cradle c.cradle).state ≠ .stale := by
    rw [State.bindReport_cradle]
    rcases State.state_of_canTake can with e | e <;> simp [e]
  have taken := bound.trans (bound.kept.setCradle (c := c.cradle)
    (r := ((s.bindReport c).cradle c.cradle).commit c (((s.rct[c.recipe]?).map (·.n)).getD 0))
    (iff_of_false (notStale _ _) was) fun e => absurd e (notStale _ _))
  rw [State.commit_eq]
  exact taken.trans (taken.kept.of_elsewhere rfl rfl ⟨rfl, rfl⟩)

theorem AlertsKept.wonFrameEnd {s : State} (h : AlertsKept s) (c : Candidate) : AlertsKept (s.wonFrameEnd c) := by
  have own : AlertsKept s.ownFrameEnd := h.elsewhere (by simp) (by simp) (by simp) (by simp) (by simp)
  have after : ∀ t, AlertsKept t → AlertsKept t.roundIdle.settle := fun t kept =>
    (kept.elsewhere (by simp) (by simp) (by simp) (by simp) (by simp)).settled
  unfold State.wonFrameEnd
  dsimp only
  split
  · rename_i recheck
    simp only [State.recheck, Bool.and_eq_true] at recheck
    obtain ⟨⟨bids, can⟩, -⟩ := recheck
    refine after _ (own.follow (own.1.commit can) (by simp) ?_ fun stops => ?_)
    · simp [State.commit_eq]
    · exact absurd stops (own.2.quiet_of_bids bids)
  · exact after _ (own.elsewhere (by simp) (by simp) (by simp) (by simp) (by simp))

theorem AlertsKept.claimFrameEnd {s : State} (h : AlertsKept s) (kind : RoundKind) :
    AlertsKept (s.claimFrameEnd kind) := by
  unfold State.claimFrameEnd
  split
  · exact h
  · split
    · exact h.wonFrameEnd _
    · exact h

/-! ## The profile, the join timer, and numbers heard -/

theorem AlertsKept.enterJoining {s : State} (h : AlertsKept s) : AlertsKept s.enterJoining := by
  unfold State.enterJoining
  split
  · exact h.setSavedMode (by simp) (by assumption)
  · exact h.changeMode (by assumption) (by simp)

theorem AlertsKept.joinNotice {s : State} (h : AlertsKept s) (n : Notice) : AlertsKept (s.joinNotice n) :=
  h.follow_same (h.1.joinNotice n) (by simp) (by simp)

theorem AlertsKept.profileReadEnd {s : State} (h : AlertsKept s) (memory : SerialMemory) :
    AlertsKept (s.profileReadEnd memory) := by
  unfold State.profileReadEnd
  split
  · split
    · have done : AlertsKept (s.setMdc { s.mdc with profileRead := .done }) :=
        h.elsewhere rfl rfl ⟨rfl, rfl⟩ rfl rfl
      exact done.raise2 _ rfl
    · rename_i img _ _
      have accepted : AlertsKept ((s.setMdc { s.mdc with
          profileRead := .done, profile := some (profileOf img) }).setRct (recipesOf img)) :=
        h.elsewhere rfl rfl ⟨rfl, rfl⟩ rfl rfl
      have waiting := (accepted.joinNotice (.join (joinFieldsOf (profileOf img) (recipesOf img)))).elsewhere
        (t := State.setMdc _ { (State.joinNotice _ _).mdc with joinTimer := .waiting }) rfl rfl ⟨rfl, rfl⟩ rfl rfl
      exact waiting.enterJoining.settled
    · exact h
  · exact h

theorem AlertsKept.joinTimerEnd {s : State} (h : AlertsKept s) : AlertsKept s.joinTimerEnd := by
  unfold State.joinTimerEnd
  split
  · rename_i since _
    have timer : AlertsKept ((s.reach (since + Config.joinTime)).setMdc { s.mdc with joinTimer := .stopped }) :=
      h.elsewhere rfl rfl ⟨rfl, rfl⟩ rfl rfl
    dsimp only
    split
    · rename_i joining
      exact (timer.changeMode (m := .active) (fun e => by simp_all) (by simp)).settled
    · split
      · rename_i saved
        exact timer.setSavedMode (by simp) saved.1
      · exact timer
  · exact h

theorem AlertsKept.joinHeard {s : State} (h : AlertsKept s) (n : StationNo) : AlertsKept (s.joinHeard n) := by
  unfold State.joinHeard
  split
  · exact (h.joinNotice _).raise2 _ rfl
  · exact h

theorem AlertsKept.conflictHeard {s : State} (h : AlertsKept s) (n : StationNo) :
    AlertsKept (s.conflictHeard n) := by
  unfold State.conflictHeard
  split
  · exact h.raise2 _ rfl
  · exact h

/-! ## Cradles and drops -/

theorem AlertsKept.setCradle {s : State} (h : AlertsKept s) {c : Cradle} {r : CradleRec}
    (was : (s.cradle c).state ≠ .stale) (becomes : r.state ≠ .stale) : AlertsKept (s.setCradle c r) :=
  h.follow_same (h.1.setCradle (iff_of_false becomes was) fun e => absurd e becomes) (by simp) (by simp)

theorem AlertsKept.cradlePlaced {s : State} (h : AlertsKept s) (c : Cradle) : AlertsKept (s.cradlePlaced c) := by
  unfold State.cradlePlaced
  split
  · exact (h.setCradle (by simp_all) (by simp)).settled
  · exact h

theorem AlertsKept.removePremature {s : State} (h : AlertsKept s) {c : Cradle}
    (state : (s.cradle c).state ≠ .stale) : AlertsKept (s.removePremature c) := by
  have gone : AlertsKept ((s.forfeitCradle c).discardFalling c) :=
    h.follow (h.1.of_elsewhere (by simp) (by simp) (by simp)) (by simp)
      (by simp [State.discardFalling, State.forfeitCradle])
      (fun _ e => by simp [State.discardFalling, State.forfeitCradle, e])
  have same : ((s.forfeitCradle c).discardFalling c).cradle c = s.cradle c := State.cradle_congr c (by simp)
  have emptied := gone.setCradle (c := c) (r := { ((s.forfeitCradle c).discardFalling c).cradle c with committed := 0 })
    (by rwa [same]) (by simpa [same] using state)
  have unbound : ∀ t, AlertsKept t → (t.cradle c).state ≠ .stale → ∀ o : Option Nat,
      AlertsKept (match o with | none => t | some i => t.onRecipe i Recipe.unbound) ∧
        ((match o with | none => t | some i => t.onRecipe i Recipe.unbound).cradle c).state ≠ .stale := by
    intro t kept state o
    cases o with
    | none => exact ⟨kept, state⟩
    | some i =>
      refine ⟨kept.elsewhere rfl rfl ⟨rfl, rfl⟩ rfl rfl, ?_⟩
      rw [State.cradle_congr (s := t) c (by simp)]
      exact state
  have reported : ∀ t, AlertsKept t → (t.cradle c).state ≠ .stale → ∀ (b : Bool) (n : Notice),
      AlertsKept (if b then t else t.joinNotice n) ∧ ((if b then t else t.joinNotice n).cradle c).state ≠ .stale := by
    intro t kept state b n
    split
    · exact ⟨kept, state⟩
    · refine ⟨kept.joinNotice n, ?_⟩
      rw [State.cradle_congr (s := t) c (by simp)]
      exact state
  have first := unbound _ emptied (by simpa [same] using state)
  have second := fun o => reported _ (first o).1 (first o).2
  exact (((second _ _ _).1.setCradle (second _ _ _).2 (by simp)).reviewIdle).raise1 _ rfl rfl

theorem AlertsKept.cradleLifted {s : State} (h : AlertsKept s) (c : Cradle) : AlertsKept (s.cradleLifted c) := by
  unfold State.cradleLifted
  split
  · exact h
  · rename_i stale
    exact h.settle (h.1.removeStale stale) (by simp) (by simp) (by simp)
  · exact (h.setCradle (by simp_all) (by simp)).settled
  · exact (h.setCradle (by simp_all) (by simp)).settled
  · exact (h.removePremature (by simp_all)).settled
  · exact (h.removePremature (by simp_all)).settled

theorem AlertsKept.removalOverdue {s : State} (h : AlertsKept s) (c : Cradle) :
    AlertsKept (s.removalOverdue c) := by
  unfold State.removalOverdue
  split
  · exact h
  · rename_i since _
    have due : ∀ t, AlertsKept (s.reach t) := fun t => h.elsewhere rfl rfl ⟨rfl, rfl⟩ rfl rfl
    have counted : ∀ t o, AlertsKept ((s.reach t).setCradle c { (s.reach t).cradle c with removal := o }) :=
      fun t o => (due t).follow_same ((due t).1.setCradle Iff.rfl fun _ => rfl) (by simp) (by simp)
    exact (counted _ _).raise1 _ rfl rfl

theorem AlertsKept.setBeam {s : State} (h : AlertsKept s) (c : Cradle) (b : Beam) : AlertsKept (s.setBeam c b) :=
  h.follow (h.1.of_elsewhere (by simp) (by simp) (by simp)) (by simp) (by simp) (by simp)

/-- A change of the falling list, the miss run or the gate. -/
theorem AlertsKept.setDrops {s : State} (h : AlertsKept s) {x : DropController}
    (gate : x.gateLock = s.drc.gateLock) (claims : x.claims = s.drc.claims) : AlertsKept (s.setDrc x) :=
  h.follow (h.1.of_elsewhere rfl rfl ⟨rfl, rfl⟩) Iff.rfl gate fun _ e => claims.trans e

theorem AlertsKept.beamBreaks {s : State} (h : AlertsKept s) (c : Cradle) : AlertsKept (s.beamBreaks c) := by
  have judged : ∀ t, AlertsKept t → AlertsKept (t.judgeBreak c) := by
    intro t kept
    unfold State.judgeBreak
    split
    · exact kept.raise1 _ rfl rfl
    · rename_i f _
      have taken := kept.setDrops (x := { t.drc with falling := t.drc.falling.erase f }) rfl rfl
      have landed := taken.follow_same (taken.1.land f.claim true) (by simp) (by simp)
      exact landed.setDrops rfl rfl
  unfold State.beamBreaks
  split
  · exact h
  · exact (judged _ (h.setBeam c _)).settled

theorem AlertsKept.beamClears {s : State} (h : AlertsKept s) (c : Cradle) : AlertsKept (s.beamClears c) := by
  unfold State.beamClears
  split
  · exact h.setBeam c _
  · exact h

theorem AlertsKept.windowOpen {s : State} (h : AlertsKept s) : AlertsKept s.windowOpen := by
  unfold State.windowOpen
  split
  · exact h
  · exact (h.elsewhere rfl rfl ⟨rfl, rfl⟩ rfl rfl : AlertsKept (s.reach _)).setDrops rfl rfl

theorem AlertsKept.gatePulseEnd {s : State} (h : AlertsKept s) : AlertsKept s.gatePulseEnd := by
  unfold State.gatePulseEnd
  split
  · exact h
  · exact (h.elsewhere rfl rfl ⟨rfl, rfl⟩ rfl rfl : AlertsKept (s.reach _)).setDrops rfl rfl

theorem AlertsKept.countMiss {s : State} (h : AlertsKept s) (c : Cradle) : AlertsKept (s.countMiss c) := by
  have counted : AlertsKept (s.setDrc { s.drc with missRun := min 255 (s.drc.missRun + 1) }) :=
    h.setDrops rfl rfl
  unfold State.countMiss
  dsimp only
  split
  · exact counted.raise2 _ rfl
  · exact counted

theorem AlertsKept.miss {s : State} (h : AlertsKept s) : AlertsKept s.miss := by
  have missed : ∀ t f rest, AlertsKept t → AlertsKept (t.missed f rest) := by
    intro t f rest kept
    have left := (kept.setDrops (x := { t.drc with falling := rest }) rfl rfl).uncommit f.claim.cradle 1
    have lost : AlertsKept (t.loseStem f rest) := left.reviewIdle.raise1 _ rfl rfl
    rw [State.missed_eq]
    exact (lost.countMiss _).settled
  unfold State.miss
  split
  · exact h
  · split
    · exact missed _ _ _ (h.elsewhere rfl rfl ⟨rfl, rfl⟩ rfl rfl)
    · exact h

theorem AlertsKept.gateStuck {s : State} (h : AlertsKept s) (c : Cradle) : AlertsKept (s.gateStuck c) := by
  unfold State.gateStuck
  split
  · exact h
  · dsimp only
    split
    · exact ((h.elsewhere rfl rfl ⟨rfl, rfl⟩ rfl rfl : AlertsKept (s.reach _)).setBeam c _).raise2 _ rfl
    · exact h

/-! ## The panel -/

theorem AlertsKept.pull {s : State} (h : AlertsKept s) (c : Cradle) : AlertsKept (s.pull c) := by
  unfold State.pull
  split
  · have popped : AlertsKept (s.setCradle c { s.cradle c with stack := (s.cradle c).stack.tail }) :=
      h.follow_same (h.1.setCradle Iff.rfl fun _ => rfl) (by simp) (by simp)
    exact (popped.follow_same (popped.1.afterLoss c) (by simp) (by simp)).settled
  · exact h.setRefuse _

theorem CradleRec.not_stale_of_building {r : CradleRec} (h : r.building = true) : r.state ≠ .stale := by
  simp only [CradleRec.building, Bool.or_eq_true, beq_iff_eq] at h
  rcases h with e | e <;> simp [e]

theorem AlertsKept.finish {s : State} (h : AlertsKept s) (c : Cradle) (key : Bool) :
    AlertsKept (s.finish c key) := by
  unfold State.finish
  split
  · rename_i may
    simp only [State.mayFinish, Bool.and_eq_true] at may
    obtain ⟨⟨⟨-, building⟩, -⟩, -⟩ := may
    have notStale := CradleRec.not_stale_of_building building
    have forfeited : AlertsKept (s.forfeitCradle c) :=
      h.follow (h.1.of_elsewhere (by simp) (by simp) (by simp)) (by simp) (by simp [State.forfeitCradle])
        (fun _ e => by simp [State.forfeitCradle, e])
    have same : (s.forfeitCradle c).cradle c = s.cradle c := State.cradle_congr c (by simp)
    have emptied := forfeited.setCradle (c := c) (r := { s.cradle c with
      committed := 0, envelope := envelopeOf ((s.cradle c).stack.map (·.length.val)) }) (by rwa [same]) notStale
    exact (emptied.follow_same (emptied.1.complete .short (by simpa using notStale)) (by simp) (by simp)).settled
  · exact h.setRefuse _

/-- An event record retires, and no condition stands or falls with it (R119, R126). -/
theorem AlertsKept.retire1 {s : State} (h : AlertsKept s) {r : Record} (current : s.alc.current = some r)
    (level1 : r.cause.isStop = false) (event : r.cause.isCondition = false) : AlertsKept s.retire1 := by
  have quiet : ¬ s.alc.stops := by
    rintro ⟨q, e, isStop⟩
    rw [current] at e
    injection e with e
    exact Bool.false_ne_true (level1.symm.trans (e ▸ isStop))
  have ne : ∀ d : Cause, d.isCondition = true → r.cause ≠ d := fun d cond e =>
    Bool.false_ne_true (event.symm.trans (e ▸ cond))
  obtain ⟨ordered, quiet'⟩ := h.1.ordered.retire quiet
  have retired : AlertsFollow s (s.setAlc s.alc.retire) :=
    { kept :=
        { ordered := ordered
          stale := (AlertController.places_retire_of_ne current (ne .staleCradle rfl)).trans h.1.stale
          blocked := (AlertController.places_retire_of_ne current (ne .blocked rfl)).trans h.1.blocked
          silent := (AlertController.places_retire_of_ne current (ne .gaugeSilent rfl)).trans h.1.silent
          unbound := h.1.unbound }
      stops := iff_of_false quiet' quiet
      savedMode := rfl
      holdStop := rfl }
  exact h.follow_same (retired.trans retired.kept.queueAlert) (by simp [State.retire1]) (by simp [State.retire1])

/-- The next level-2 record follows the one that retires, and STOP goes on (R123). -/
theorem AlertsKept.nextStop {s : State} (h : AlertsKept s) {r next : Record} {rest : List Record}
    (current : s.alc.current = some r) (isStop : r.cause.isStop = true) (pend2 : s.alc.pend2 = next :: rest) :
    AlertsKept (s.setAlc { s.alc with current := some next, pend2 := rest }).queueAlert := by
  have ordered := h.1.ordered
  have order := ordered.pend2
  have level2 := ordered.level2
  rw [pend2] at order level2
  have nextStop := level2 next (by simp)
  have stops : ({ s.alc with current := some next, pend2 := rest } : AlertController).stops :=
    ⟨next, rfl, nextStop⟩
  have places : ∀ c, c.isCondition = true →
      ({ s.alc with current := some next, pend2 := rest } : AlertController).places c = s.alc.places c := by
    intro c cond
    simp [AlertController.places_eq, current, pend2, Cause.ne_condition_of_isStop isStop cond,
      Cause.ne_condition_of_isStop nextStop cond]
  have follows : AlertsFollow s (s.setAlc { s.alc with current := some next, pend2 := rest }) :=
    { kept :=
        { ordered := { ordered with
            pend2 := (inCodeOrder_cons.mp order).2
            level2 := fun q m => level2 q (List.mem_cons_of_mem _ m)
            behind := fun e => absurd e (by simp)
            quiet := fun e => absurd stops e }
          stale := (places .staleCradle rfl).trans h.1.stale
          blocked := (places .blocked rfl).trans h.1.blocked
          silent := (places .gaugeSilent rfl).trans h.1.silent
          unbound := h.1.unbound }
      stops := iff_of_true stops ⟨r, current, isStop⟩
      savedMode := rfl
      holdStop := rfl }
  exact h.follow_same (follows.trans follows.kept.queueAlert) (by simp) (by simp)

theorem AlertsKept.clear {s : State} (h : AlertsKept s) (key : Bool) : AlertsKept (s.clear key) := by
  have refused : AlertsKept s.refusePulse := h.setRefuse _
  unfold State.clear
  split
  · exact refused
  · rename_i r current
    split
    · rename_i isStop
      split
      · unfold State.retire2
        split
        · rename_i next rest pend2
          exact h.nextStop current isStop pend2
        · rename_i empty
          exact h.endStop ⟨r, current, isStop⟩ empty
      · exact refused
    · rename_i level1
      split
      · exact refused
      · rename_i event
        exact h.retire1 current (Bool.eq_false_iff.mpr level1) (Bool.eq_false_iff.mpr event)

/-- CANCEL leaves the conditions where they stand (R129). -/
theorem AlertsKept.cancel {s : State} (h : AlertsKept s) :
    AlertsKept (s.setAlc { s.alc with pend1 := s.pendingConditions }) := by
  have count : ∀ c : Cause, c.isCondition = true → countCause c s.pendingConditions = countCause c s.alc.pend1 := by
    intro c cond
    rw [State.pendingConditions, countCause, countCause, List.filter_filter]
    congr 1
    refine List.filter_congr fun r _ => ?_
    by_cases e : r.cause = c <;> simp [e, cond]
  have places : ∀ c : Cause, c.isCondition = true →
      ({ s.alc with pend1 := s.pendingConditions } : AlertController).places c = s.alc.places c := by
    intro c cond
    simp [AlertController.places_eq, count c cond]
  have ordered := h.1.ordered
  have follows : AlertsFollow s (s.setAlc { s.alc with pend1 := s.pendingConditions }) :=
    { kept :=
        { ordered := { ordered with
            pend1 := inCodeOrder_sublist ordered.pend1 s.pendingConditions_sublist
            level1 := fun q m => ordered.level1 q (s.pendingConditions_sublist.subset m)
            behind := fun e => by simp [State.pendingConditions, ordered.behind e]
            quiet := ordered.quiet }
          stale := (places .staleCradle rfl).trans h.1.stale
          blocked := (places .blocked rfl).trans h.1.blocked
          silent := (places .gaugeSilent rfl).trans h.1.silent
          unbound := h.1.unbound }
      stops := Iff.rfl
      savedMode := rfl
      holdStop := rfl }
  exact h.follow_same follows rfl rfl

theorem AlertsKept.drain {s : State} (h : AlertsKept s) : AlertsKept s.drain := by
  unfold State.drain
  split
  · exact (h.changeMode (by simp_all) (by simp)).settled
  · exact h.setRefuse _

theorem AlertsKept.resume {s : State} (h : AlertsKept s) : AlertsKept s.resume := by
  unfold State.resume
  split
  · rename_i may
    refine (h.changeMode (fun e => ?_) (by simp)).settled
    simp [State.mayResume, e] at may
  · exact h.setRefuse _

theorem AlertsKept.refusePulseEnd {s : State} (h : AlertsKept s) : AlertsKept s.refusePulseEnd := by
  unfold State.refusePulseEnd
  split
  · exact h
  · exact (h.elsewhere rfl rfl ⟨rfl, rfl⟩ rfl rfl : AlertsKept (s.reach _)).setRefuse _

theorem AlertsKept.win {s : State} (h : AlertsKept s) : AlertsKept s.win := by
  unfold State.win
  split
  · exact h.elsewhere rfl rfl ⟨rfl, rfl⟩ rfl rfl
  · exact h

/-! ## Every command -/

theorem AlertsKept.readHold {s : State} (h : AlertsKept s) : AlertsKept s.readHold :=
  h.elsewhere (by simp) (by simp) (by rw [State.readHold_ptr]; exact ⟨rfl, rfl⟩) (by simp) (by simp)

theorem AlertsKept.told {s : State} (h : AlertsKept s) (p : Pin) (level : Bool) : AlertsKept (s.told p level) :=
  h.elsewhere (by simp) (by simp) (by simp) (by simp) (by simp)

theorem AlertsKept.operate {s : State} (h : AlertsKept s) (c : Instr) : AlertsKept (s.operate c) := by
  have elsewhere : ∀ t : State, t.alc = s.alc ∧ t.crm = s.crm ∧ t.ptr = s.ptr ∧ t.mdc = s.mdc ∧ t.drc = s.drc →
      AlertsKept t := fun t ⟨alc, crm, ptr, mdc, drc⟩ =>
    h.elsewhere alc crm (by rw [ptr]; exact ⟨rfl, rfl⟩) (by rw [mdc]) drc
  have heard := fun (f : State → State) => State.hears_keeps (P := AlertsKept) (s := s) (f := f) h
  have pressed := fun (f : State → State) (b : Pin) => State.pressed_keeps (P := AlertsKept) (s := s) (f := f) b h
  cases c with
  | reset _ => exact h
  | resetHeld => exact h
  | profileReadEnd memory => exact h.profileReadEnd memory
  | forwardPulse => exact h.forwardPulse
  | reversePulse => exact h.elsewhere rfl rfl ⟨rfl, rfl⟩ rfl rfl
  | announce st => exact heard (·.announce st) fun _ => h.announce st
  | announcePendingEnd => exact h.announcePendingEnd
  | holdLevelChange marked =>
    have others : AlertsKept (s.setPtr { s.ptr with holdOthers := marked }) :=
      h.elsewhere rfl rfl ⟨rfl, rfl⟩ rfl rfl
    exact others.readHold
  | claimStart => exact elsewhere _ (by simp [State.operate])
  | reclaimStart => exact elsewhere _ (by simp [State.operate])
  | arbitrationLoss => exact elsewhere _ (by simp [State.operate])
  | transmitMismatch atStart => exact h.mismatch atStart
  | claimSent => exact h.claimFrameEnd .claim
  | reclaimSent => exact h.claimFrameEnd .reclaim
  | claimReceived _ => exact heard State.frameEnd fun _ => h.frameEnd
  | reofferReceived _ st =>
    exact heard (fun s => (s.frameEnd.takeReoffer st).openReclaimReserve) fun _ => elsewhere _ (by simp)
  | badCheckFrame kind => exact heard (·.frameEnd.badFrame kind) fun _ => h.frameEnd.badFrame kind
  | frameCutShort kind => exact heard (·.cutShort kind) fun _ => h.cutShort kind
  | unknownKindFrame _ => exact heard State.unknownKind fun _ => elsewhere _ (by simp)
  | busIdle => exact elsewhere _ (by simp [State.operate])
  | claimReserveEnd => exact elsewhere _ (by simp [State.operate])
  | reclaimReserveEnd => exact elsewhere _ (by simp [State.operate])
  | reofferSend => exact elsewhere _ (by simp [State.operate])
  | reofferSent => exact elsewhere _ (by simp [State.operate])
  | noticeSend => exact elsewhere _ (by simp [State.operate])
  | noticeSent => exact h.noticeSent
  | joinTimerEnd => exact h.joinTimerEnd
  | joinReceived n => exact heard (·.frameEnd.joinHeard n) fun _ => h.frameEnd.joinHeard n
  | conflictReceived n => exact heard (·.frameEnd.conflictHeard n) fun _ => h.frameEnd.conflictHeard n
  | noticeReceived _ => exact heard State.frameEnd fun _ => h.frameEnd
  | query n topic => exact heard (·.frameEnd.queried n topic) fun _ => h.frameEnd.queried n topic
  | cradlePresent c => exact (h.told _ _).cradlePlaced c
  | cradleAbsent c => exact (h.told _ _).cradleLifted c
  | beamBlocked c => exact (h.told _ _).beamBreaks c
  | beamClear c => exact (h.told _ _).beamClears c
  | windowOpen => exact h.windowOpen
  | miss => exact h.miss
  | gatePulseEnd => exact h.gatePulseEnd
  | gateStuck c => exact h.gateStuck c
  | removalOverdue c => exact h.removalOverdue c
  | pull c => exact pressed (·.pull c) _ (h.pull c)
  | finish c key => exact pressed (·.finish c key) _ (h.finish c key)
  | clear key => exact pressed (·.clear key) _ (h.clear key)
  | cancel => exact pressed (fun s => s.setAlc { s.alc with pend1 := s.pendingConditions }) _ h.cancel
  | drain => exact pressed State.drain _ h.drain
  | resume => exact pressed State.resume _ h.resume
  | refusePulseEnd => exact h.refusePulseEnd
  | startMark => exact elsewhere _ (by simp [State.operate])
  | won => exact h.win

theorem AlertsKept.tick {s : State} (h : AlertsKept s) : AlertsKept s.tick := by
  refine h.elsewhere ?_ ?_ ?_ ?_ ?_ <;> unfold State.tick <;> dsimp only <;> split <;> simp [State.openBit_eq]

theorem AlertsKept.released {s : State} (h : AlertsKept s) : AlertsKept s.released :=
  ⟨{ h.1 with ordered := { h.1.ordered with } }, { h.2 with hold := fun e => absurd e (by simp [State.released]) }⟩

theorem AlertsKept.whileHeld {s : State} (h : AlertsKept s) (c : Instr) : AlertsKept (s.whileHeld c) := by
  cases c with
  | beamBlocked c => exact h.told _ _
  | beamClear c => exact h.told _ _
  | cradlePresent c => exact h.told _ _
  | cradleAbsent c => exact h.told _ _
  | holdLevelChange marked => exact h.elsewhere rfl rfl ⟨rfl, rfl⟩ rfl rfl
  | _ => exact h

/-- Settles O6: the records by their order and their places, and STOP by its entry and its end. -/
theorem everyStepKeepsTheAlertRecords : Obligations.EveryStepKeepsTheAlertRecords := by
  intro s t sound h
  exact step_keeps sound h (fun u soundU => soundU.2.1) sound.alertsKept.tick.agree
    (fun u soundU => soundU.alertsKept.released.agree) (fun c u soundU _ => (soundU.alertsKept.whileHeld c).agree)
    (fun c u soundU _ => (soundU.alertsKept.operate c).agree)

end Sys2Proof.Machine
end

section
/-! The bus interface, the round and the notice queue through the shared operations (R30, R39, R41, R45, R107, R136,
R141, R149). -/

namespace Sys2Proof.Machine

/-! ## What is driven -/

theorem State.txAgrees_of_none {s : State} (h : s.lbi.tx = none) :
    s.txAgrees = true ↔ s.clu.round ≠ .won ∧ s.rol.sending = none := by
  simp [State.txAgrees, h]

theorem State.txAgrees_of_claim {s : State} {kind : RoundKind} {tag : Tag} {bid : Nat}
    (h : s.lbi.tx = some (.claim kind tag bid)) :
    s.txAgrees = true ↔ (s.clu.round = .bidding ∨ s.clu.round = .won) ∧ s.rol.sending = none ∧
      ∃ c, s.clu.chosen = some c ∧ c.kind = kind ∧ c.stem.tag = tag ∧ c.bid = bid := by
  simp [State.txAgrees, h, Option.any_eq_true, and_assoc]

theorem State.txAgrees_of_reoffer {s : State} {n : StationNo} {st : Stem}
    (h : s.lbi.tx = some (.reoffer n st)) :
    s.txAgrees = true ↔ s.clu.round ≠ .won ∧ s.number = some n ∧ s.rol.sending = some st.tag ∧
      st ∈ s.rol.entries := by
  simp [State.txAgrees, h, and_assoc]

theorem State.txAgrees_of_notice {s : State} {f : Frame} (h : s.lbi.tx = some f) (notice : f.isNotice = true) :
    s.txAgrees = true ↔ s.clu.round ≠ .won ∧ s.rol.sending = none ∧
      ∃ n, s.lbi.notices.head? = some n ∧ f.carries n = true := by
  cases f <;> simp [Frame.isNotice] at notice <;> simp [State.txAgrees, h, Option.any_eq_true, and_assoc]

/-- A frame is a claim frame, a REOFFER or a notice. -/
theorem Frame.cases_kind (f : Frame) :
    (∃ kind tag bid, f = .claim kind tag bid) ∨ (∃ n st, f = .reoffer n st) ∨ f.isNotice = true := by
  cases f <;> simp [Frame.isNotice]

theorem State.drivingClaim_iff (s : State) :
    s.drivingClaim = true ↔ ∃ kind tag bid, s.lbi.tx = some (.claim kind tag bid) := by
  unfold State.drivingClaim
  split
  · simp_all
  · rename_i other
    simpa using other

theorem State.drivingAlert_iff (s : State) :
    s.drivingAlert = true ↔ ∃ n r lost, s.lbi.tx = some (.alert n r lost) := by
  unfold State.drivingAlert
  split
  · simp_all
  · rename_i other
    simpa using other

/-- A round in WON drives its claim frame (R43). -/
theorem State.drivingClaim_of_won {s : State} (h : s.txAgrees = true) (won : s.clu.round = .won) :
    s.drivingClaim = true := by
  cases tx : s.lbi.tx with
  | none => exact absurd won ((State.txAgrees_of_none tx).mp h).1
  | some f =>
    obtain ⟨kind, tag, bid, rfl⟩ | ⟨n, st, rfl⟩ | notice := f.cases_kind
    · exact (s.drivingClaim_iff).mpr ⟨kind, tag, bid, tx⟩
    · exact absurd won ((State.txAgrees_of_reoffer tx).mp h).1
    · exact absurd won ((State.txAgrees_of_notice tx notice).mp h).1

/-- With no claim frame driven the round is not in WON, and a claim frame is driven from an open round alone. -/
theorem State.round_of_drivingClaim {s : State} (h : s.txAgrees = true) (driving : s.drivingClaim = true) :
    (s.clu.round = .bidding ∨ s.clu.round = .won) ∧ s.rol.sending = none := by
  obtain ⟨kind, tag, bid, tx⟩ := s.drivingClaim_iff.mp driving
  obtain ⟨round, sending, -⟩ := (State.txAgrees_of_claim tx).mp h
  exact ⟨round, sending⟩

/-- What is driven agrees with the rest where the rest is kept, but for entries and notices that come on top. -/
theorem State.txAgrees_transfer {s t : State} (h : s.txAgrees = true) (tx : t.lbi.tx = s.lbi.tx)
    (round : t.clu.round = s.clu.round) (chosen : t.clu.chosen = s.clu.chosen)
    (sending : t.rol.sending = s.rol.sending)
    (entries : ∀ st ∈ s.rol.entries, s.rol.sending = some st.tag → st ∈ t.rol.entries)
    (number : t.number = s.number)
    (head : ∀ n, s.lbi.notices.head? = some n → t.lbi.notices.head? = some n) : t.txAgrees = true := by
  cases k : s.lbi.tx with
  | none =>
    rw [State.txAgrees_of_none (tx.trans k), round, sending]
    exact (State.txAgrees_of_none k).mp h
  | some f =>
    obtain ⟨kind, tag, bid, rfl⟩ | ⟨n, st, rfl⟩ | notice := f.cases_kind
    · rw [State.txAgrees_of_claim (tx.trans k), round, sending, chosen]
      exact (State.txAgrees_of_claim k).mp h
    · rw [State.txAgrees_of_reoffer (tx.trans k), round, sending, number]
      obtain ⟨round, number, sending, mem⟩ := (State.txAgrees_of_reoffer k).mp h
      exact ⟨round, number, sending, entries st mem sending⟩
    · rw [State.txAgrees_of_notice (tx.trans k) notice, round, sending]
      obtain ⟨round, sending, n, first, carries⟩ := (State.txAgrees_of_notice k notice).mp h
      exact ⟨round, sending, n, head n first, carries⟩

/-! ## The agreement -/

/-- The notice queue holds eight notices and one ALERT at most, an ALERT at its head while one is driven or marked to
be sent again (R149, R151). -/
structure LineBus.Queued (l : LineBus) : Prop where
  room : l.notices.length ≤ Config.noticesMax
  oneAlert : (l.notices.filter (· = .alert)).length ≤ 1
  resend : l.resend = true → l.notices.head? = some .alert

/-- What `BusAgrees` says, by name. -/
structure BusKept (s : State) : Prop where
  tx : s.txAgrees = true
  driving : s.lbi.tx.isSome = true → s.lbi.receiver = .inFrame ∧ s.mdc.profile.isSome = true
  open_ : s.clu.round = .idle ↔ s.clu.chosen = none
  profiled : s.clu.chosen.isSome = true → s.mdc.profile.isSome = true
  bid : ∀ c ∈ s.clu.chosen, ∀ n ∈ s.number, c.bid % 64 = n.val
  bids : s.clu.round = .bidding ∨ s.clu.round = .won → s.mdc.mode.bids = true
  queued : s.lbi.Queued
  openRun : s.lbi.openRun ≤ Config.idleRun
  mismatches : s.lbi.mismatches ≤ 1

theorem busAgrees_iff (s : State) : BusAgrees s ↔ BusKept s := by
  constructor
  · rintro ⟨tx, driving, open_, profiled, bid, bids, room, oneAlert, resend, openRun, mismatches⟩
    exact ⟨tx, driving, open_, profiled, bid, bids, ⟨room, oneAlert, resend⟩, openRun, mismatches⟩
  · rintro ⟨tx, driving, open_, profiled, bid, bids, ⟨room, oneAlert, resend⟩, openRun, mismatches⟩
    exact ⟨tx, driving, open_, profiled, bid, bids, room, oneAlert, resend, openRun, mismatches⟩

/-- Entries that come on top, and changes of mode that keep a bidder bidding. -/
theorem BusKept.of_list {s t : State} (h : BusKept s) (lbi : t.lbi = s.lbi) (clu : t.clu = s.clu)
    (sending : t.rol.sending = s.rol.sending)
    (entries : ∀ st ∈ s.rol.entries, s.rol.sending = some st.tag → st ∈ t.rol.entries)
    (profile : t.mdc.profile = s.mdc.profile)
    (mode : s.clu.round = .bidding ∨ s.clu.round = .won → t.mdc.mode.bids = true) : BusKept t where
  tx := State.txAgrees_transfer h.tx (by rw [lbi]) (by rw [clu]) (by rw [clu]) sending entries
    (by simp [State.number, profile]) (by rw [lbi]; exact fun _ e => e)
  driving := by rw [lbi, profile]; exact h.driving
  open_ := by rw [clu]; exact h.open_
  profiled := by rw [clu, profile]; exact h.profiled
  bid := by rw [clu, State.number, profile]; exact h.bid
  bids := by rw [clu]; exact mode
  queued := by rw [lbi]; exact h.queued
  openRun := by rw [lbi]; exact h.openRun
  mismatches := by rw [lbi]; exact h.mismatches

theorem BusKept.of_same {s t : State} (h : BusKept s) (lbi : t.lbi = s.lbi) (clu : t.clu = s.clu)
    (rol : t.rol = s.rol) (mdc : t.mdc = s.mdc) : BusKept t :=
  h.of_list lbi clu (by rw [rol]) (by rw [rol]; exact fun _ m _ => m) (by rw [mdc]) (by rw [mdc]; exact h.bids)

/-! ## Notices -/

theorem NoticesGrow.head? {l m : LineBus} (h : l.NoticesGrow m) {n : Notice} (k : l.notices.head? = some n) :
    m.notices.head? = some n := by
  rw [List.head?_eq_getElem?] at k ⊢
  exact h.getElem? k

/-- Notices that join the queue and keep it in order. -/
theorem BusKept.of_notices {s t : State} (h : BusKept s) (grows : s.lbi.NoticesGrow t.lbi)
    (queued : t.lbi.Queued) (clu : t.clu = s.clu) (rol : t.rol = s.rol) (mdc : t.mdc = s.mdc) : BusKept t := by
  obtain ⟨receiver, openRun, tx, mismatches, -⟩ := grows.frame
  exact
    { tx := State.txAgrees_transfer h.tx tx (by rw [clu]) (by rw [clu]) (by rw [rol])
        (by rw [rol]; exact fun _ m _ => m) (State.number_congr mdc) fun _ => NoticesGrow.head? grows
      driving := by rw [tx, receiver, mdc]; exact h.driving
      open_ := by rw [clu]; exact h.open_
      profiled := by rw [clu, mdc]; exact h.profiled
      bid := by rw [clu, State.number_congr mdc]; exact h.bid
      bids := by rw [clu, mdc]; exact h.bids
      queued := queued
      openRun := by rw [openRun]; exact h.openRun
      mismatches := by rw [mismatches]; exact h.mismatches }

/-- An ALERT frame is driven from the head of the queue (R149). -/
theorem BusKept.head_of_drivingAlert {s : State} (h : BusKept s) (driving : s.drivingAlert = true) :
    s.lbi.notices.head? = some .alert := by
  obtain ⟨n, r, lost, tx⟩ := s.drivingAlert_iff.mp driving
  obtain ⟨-, -, q, first, carries⟩ := (State.txAgrees_of_notice tx rfl).mp h.tx
  rw [first]
  cases q <;> simp [Frame.carries] at carries ⊢

theorem Queued.append {l : LineBus} (h : l.Queued) {n : Notice} (room : l.notices.length < Config.noticesMax)
    (single : n = .alert → .alert ∉ l.notices) : ({ l with notices := l.notices ++ [n] } : LineBus).Queued where
  room := by simpa using room
  oneAlert := by
    have one := h.oneAlert
    rw [List.filter_append, List.length_append]
    by_cases e : n = .alert
    · have none : l.notices.filter (· = .alert) = [] := by
        simpa [List.filter_eq_nil_iff] using fun (a : Notice) (m : a ∈ l.notices) (b : a = Notice.alert) => single e (b ▸ m)
      simp [none, e]
    · simpa [e] using one
  resend := fun e => by simp [h.resend e]

theorem BusKept.putLost {s : State} (h : BusKept s) : BusKept s.putLost :=
  h.of_notices s.putLost_grows { h.queued with } rfl rfl rfl

theorem BusKept.alertNotice {s : State} (h : BusKept s) {full : State → State}
    (keeps : ∀ t, BusKept t → BusKept (full t)) : BusKept (s.alertNotice full) := by
  obtain ⟨-, -, e⟩ | ⟨-, driving, e⟩ | ⟨new, room, e⟩ | ⟨-, -, e⟩ := s.alertNotice_cases full <;> rw [e]
  · exact h
  · exact h.of_notices ⟨rfl, List.prefix_refl _⟩
      { h.queued with resend := fun _ => h.head_of_drivingAlert driving } rfl rfl rfl
  · exact h.of_notices ⟨rfl, List.prefix_append _ _⟩ (Queued.append h.queued room fun _ => new) rfl rfl rfl
  · exact keeps s h

theorem BusKept.attention {s : State} (h : BusKept s) (c : Cause) (param : BitVec 12) {full : State → State}
    (keeps : ∀ t, BusKept t → BusKept (full t)) : BusKept (s.attention c param full) := by
  unfold State.attention
  dsimp only
  split
  · have current : BusKept (s.setAlc { s.alc with current := some ⟨c, param, s.stamp⟩ }) :=
      h.of_same rfl rfl rfl rfl
    exact current.alertNotice keeps
  · exact h.of_same rfl rfl rfl rfl

theorem BusKept.discardNotice {s : State} (h : BusKept s) : BusKept s.discardNotice := by
  unfold State.discardNotice
  split
  · exact h.putLost
  · exact h.putLost.attention _ _ fun _ => BusKept.putLost

theorem BusKept.queueAlert {s : State} (h : BusKept s) : BusKept s.queueAlert :=
  h.alertNotice fun _ => BusKept.discardNotice

theorem BusKept.joinNotice {s : State} (h : BusKept s) {n : Notice} (other : n ≠ .alert) :
    BusKept (s.joinNotice n) := by
  unfold State.joinNotice
  split
  · exact h.of_notices ⟨rfl, List.prefix_append _ _⟩ (Queued.append h.queued (by assumption) fun e => absurd e other)
      rfl rfl rfl
  · exact h.discardNotice

theorem BusKept.raise1 {s : State} (h : BusKept s) (c : Cause) (param : BitVec 12) :
    BusKept (s.raise1 c param) := h.attention c param fun _ => BusKept.discardNotice

theorem BusKept.setAlc {s : State} (h : BusKept s) (x : AlertController) : BusKept (s.setAlc x) :=
  h.of_same rfl rfl rfl rfl

theorem BusKept.setDrc {s : State} (h : BusKept s) (x : DropController) : BusKept (s.setDrc x) :=
  h.of_same rfl rfl rfl rfl

theorem BusKept.endCondition {s : State} (h : BusKept s) (c : Cause) : BusKept (s.endCondition c) := by
  unfold State.endCondition
  split
  · exact (h.setAlc _).queueAlert
  · exact h.setAlc _

theorem BusKept.reviewBlocked {s : State} (h : BusKept s) : BusKept s.reviewBlocked := by
  have crm : ∀ x, BusKept (s.setCrm x) := fun x => h.of_same rfl rfl rfl rfl
  have held : ∀ (t : State) (v : Bool), BusKept t → BusKept (t.setHoldBlocked v) := fun t v kept =>
    kept.of_same (by simp) (by simp) (by simp) (by simp)
  unfold State.reviewBlocked
  split
  · exact h
  · split
    · exact held _ _ ((crm _).raise1 _ _)
    · exact held _ _ ((crm _).endCondition _)

/-! ## Cradles and recipes -/

theorem BusKept.setCradle {s : State} (h : BusKept s) (c : Cradle) (r : CradleRec) : BusKept (s.setCradle c r) :=
  h.of_same (by simp) (by simp) (by simp) (by simp)

theorem BusKept.uncommit {s : State} (h : BusKept s) (c : Cradle) (n : Nat) : BusKept (s.uncommit c n) :=
  h.of_same (by simp) (by simp) (by simp) (by simp)

theorem BusKept.afterLoss {s : State} (h : BusKept s) (c : Cradle) : BusKept (s.afterLoss c) :=
  h.of_same (by simp) (by simp) (by simp) (by simp)

theorem BusKept.onRecipe {s : State} (h : BusKept s) (i : Nat) (f : Recipe → Recipe) : BusKept (s.onRecipe i f) :=
  h.of_same rfl rfl rfl rfl

theorem BusKept.completionReport {s : State} (h : BusKept s) (i : Nat) : BusKept (s.completionReport i) := by
  unfold State.completionReport
  split
  · exact h
  · dsimp only
    split
    · exact (h.onRecipe i _).joinNotice (by simp)
    · exact h.onRecipe i _

theorem BusKept.complete {s : State} (h : BusKept s) (c : Cradle) (how : Completion) :
    BusKept (s.complete c how) := by
  have reported : ∀ t, BusKept t → ∀ o : Option Nat, BusKept (match o with
      | none => t
      | some i => t.completionReport i) := by
    intro t kept o
    cases o with
    | none => exact kept
    | some i => exact kept.completionReport i
  unfold State.complete
  exact ((reported _ (h.setCradle c _) _).joinNotice (by simp)).setCradle c _

theorem BusKept.land {s : State} (h : BusKept s) (e : Claim) (verified : Bool) : BusKept (s.land e verified) := by
  have pushed := h.setCradle e.cradle
  unfold State.land
  dsimp only
  split
  · exact pushed _
  · split
    · exact (pushed _).complete _ _
    · exact pushed _

/-! ## The Re-offer List and the round -/

theorem BusKept.reoffer {s : State} (h : BusKept s) (st : Stem) : BusKept (s.reoffer st) := by
  refine h.of_list (by simp) (by simp) (by simp) (fun e m _ => ?_) (by simp) (by simpa using h.bids)
  unfold State.reoffer
  split
  · exact m
  · simp [m]

theorem BusKept.reofferAll {s : State} (h : BusKept s) (l : List Stem) : BusKept (s.reofferAll l) := by
  induction l generalizing s with
  | nil => exact h
  | cons st l ih => exact ih (h.reoffer st)

/-- The entry being sent is exempt from the expiry check (R105, R108). -/
theorem BusKept.expire {s : State} (h : BusKept s) : BusKept s.expire :=
  h.of_list rfl rfl rfl (fun st m sending => by simp [State.expire, m, sending]) rfl h.bids

/-- With nothing driven and no stem being sent, a Claim Unit at rest agrees with anything. -/
theorem BusKept.atRest {s t : State} (h : BusKept s) (lbi : t.lbi = { s.lbi with tx := none })
    (clu : t.clu = .atRest) (sending : t.rol.sending = none) : BusKept t where
  tx := by
    rw [State.txAgrees_of_none (by rw [lbi]), clu]
    exact ⟨by simp [ClaimUnit.atRest], sending⟩
  driving := by rw [lbi]; exact fun e => absurd e (by simp)
  open_ := by rw [clu]; simp [ClaimUnit.atRest]
  profiled := by rw [clu]; exact fun e => absurd e (by simp [ClaimUnit.atRest])
  bid := by rw [clu]; exact fun c m => absurd m (by simp [ClaimUnit.atRest])
  bids := by rw [clu]; exact fun e => absurd e (by simp [ClaimUnit.atRest])
  queued := by rw [lbi]; exact { h.queued with }
  openRun := by rw [lbi]; exact h.openRun
  mismatches := by rw [lbi]; exact h.mismatches

/-- A round that is not driven may become LOST, or be over, or stay as it was. -/
theorem BusKept.of_round {s t : State} (h : BusKept s) (free : s.drivingClaim = false) (lbi : t.lbi = s.lbi)
    (rol : t.rol = s.rol) (profile : t.mdc.profile = s.mdc.profile)
    (clu : t.clu = .atRest ∨ t.clu.round = .lost ∧ s.clu.round ≠ .idle ∧ t.clu.chosen = s.clu.chosen) :
    BusKept t := by
  have notWon : t.clu.round ≠ .won := by
    rcases clu with e | ⟨e, -⟩ <;> rw [e] <;> simp [ClaimUnit.atRest]
  refine
    { tx := ?tx
      driving := by rw [lbi, profile]; exact h.driving
      open_ := ?open_
      profiled := ?profiled
      bid := ?bid
      bids := ?bids
      queued := by rw [lbi]; exact h.queued
      openRun := by rw [lbi]; exact h.openRun
      mismatches := by rw [lbi]; exact h.mismatches }
  case tx =>
    cases k : s.lbi.tx with
    | none =>
      rw [State.txAgrees_of_none (by rw [lbi, k]), rol]
      exact ⟨notWon, ((State.txAgrees_of_none k).mp h.tx).2⟩
    | some f =>
      obtain ⟨kind, tag, bid, rfl⟩ | ⟨n, st, rfl⟩ | notice := f.cases_kind
      · exact absurd (s.drivingClaim_iff.mpr ⟨kind, tag, bid, k⟩) (by simp [free])
      · rw [State.txAgrees_of_reoffer (by rw [lbi, k]), rol]
        obtain ⟨-, number, sending, mem⟩ := (State.txAgrees_of_reoffer k).mp h.tx
        exact ⟨notWon, by simpa [State.number, profile] using number, sending, mem⟩
      · rw [State.txAgrees_of_notice (by rw [lbi, k]) notice, rol, lbi]
        exact ⟨notWon, ((State.txAgrees_of_notice k notice).mp h.tx).2⟩
  case open_ =>
    rcases clu with e | ⟨lost, was, chosen⟩
    · rw [e]; simp [ClaimUnit.atRest]
    · rw [lost, chosen]
      exact iff_of_false (by simp) (h.open_.not.mp was)
  case profiled =>
    rcases clu with e | ⟨-, -, chosen⟩
    · rw [e]; exact fun m => absurd m (by simp [ClaimUnit.atRest])
    · rw [chosen, profile]; exact h.profiled
  case bid =>
    rcases clu with e | ⟨-, -, chosen⟩
    · rw [e]; exact fun c m => absurd m (by simp [ClaimUnit.atRest])
    · rw [chosen, State.number, profile]; exact h.bid
  case bids =>
    rcases clu with e | ⟨lost, -⟩
    · rw [e]; exact fun m => absurd m (by simp [ClaimUnit.atRest])
    · rw [lost]; exact fun m => absurd m (by simp)

theorem BusKept.giveUpStart {s : State} (h : BusKept s) : BusKept s.giveUpStart := by
  by_cases gives : s.clu.round = .bidding ∧ s.drivingClaim = false
  · refine h.of_round gives.2 (by simp) (by simp) (by simp) (.inr ⟨?_, by simp [gives.1], ?_⟩) <;>
      rw [State.giveUpStart_clu, if_pos gives]
  · rw [State.giveUpStart, if_neg gives]
    exact h

/-- The end of a bidding mode ends a driven round and loses one that is not (R45). -/
theorem BusKept.changeMode {s : State} (h : BusKept s) (m : Mode) : BusKept (s.changeMode m) := by
  cases bids : m.bids with
  | true =>
    rw [State.changeMode_of_bids s bids]
    exact h.of_list rfl rfl rfl (fun _ m _ => m) rfl fun _ => bids
  | false =>
    obtain ⟨clu, rol, lbi⟩ := s.changeMode_of_ends bids
    have quiet : s.clu.round ≠ .won → (s.changeMode m).rol = s.rol := fun round => by
      rw [rol, State.wonStems, if_neg round, State.reofferAll]
    have undriven : ¬ (s.drivingClaim = true ∧ (s.clu.round = .bidding ∨ s.clu.round = .won)) →
        (s.changeMode m).lbi = s.lbi := fun e => by rw [lbi, if_neg e]
    have stays : s.clu.round = .idle ∨ s.clu.round = .lost → BusKept (s.changeMode m) := by
      intro round
      have same : (s.changeMode m).clu = s.clu := by
        rcases round with e | e <;> rw [clu, State.roundWithoutMode, e]
      have closed : ¬ (s.clu.round = .bidding ∨ s.clu.round = .won) := by
        rcases round with e | e <;> simp [e]
      have rolSame := quiet fun e => closed (.inr e)
      exact h.of_list (undriven fun e => closed e.2) same (by rw [rolSame])
        (by rw [rolSame]; exact fun _ m _ => m) (by simp) fun e => absurd e closed
    have ends : s.drivingClaim = true → (s.clu.round = .bidding ∨ s.clu.round = .won) →
        (s.changeMode m).clu = .atRest → BusKept (s.changeMode m) := by
      intro driving round rest
      have sending := (State.round_of_drivingClaim h.tx driving).2
      exact h.atRest (by rw [lbi, if_pos ⟨driving, round⟩]) rest (by rw [rol, State.reofferAll_sending, sending])
    cases round : s.clu.round with
    | idle => exact stays (.inl round)
    | lost => exact stays (.inr round)
    | won =>
      exact ends (State.drivingClaim_of_won h.tx round) (.inr round) (by rw [clu, State.roundWithoutMode, round])
    | bidding =>
      cases driving : s.drivingClaim with
      | true => exact ends driving (.inl round) (by rw [clu, State.roundWithoutMode, round]; simp [driving])
      | false =>
        have lost : (s.changeMode m).clu = { s.clu with round := .lost, gaveUp := true } := by
          rw [clu, State.roundWithoutMode, round]
          simp [driving]
        exact h.of_round driving (undriven (by simp [driving])) (quiet (by simp [round])) (by simp)
          (.inr ⟨by rw [lost], by simp [round], by rw [lost]⟩)

theorem BusKept.reviewIdle {s : State} (h : BusKept s) : BusKept s.reviewIdle := by
  unfold State.reviewIdle
  split
  · exact h.changeMode _
  · exact h

theorem BusKept.settle {s : State} (h : BusKept s) : BusKept s.settle := h.reviewIdle.reviewBlocked

/-! ## STOP -/

theorem BusKept.stopForfeit {s : State} (h : BusKept s) : BusKept s.stopForfeit := by
  have locked : BusKept (s.setDrc { s.drc with claims := [], gateLock := true }) := h.of_same rfl rfl rfl rfl
  exact ((locked.reofferAll _).uncommit _ _).uncommit _ _

theorem BusKept.setHoldStop {s : State} (h : BusKept s) (v : Bool) : BusKept (s.setHoldStop v) :=
  h.of_same (by simp) (by simp) (by simp) (by simp)

theorem BusKept.enterStop {s : State} (h : BusKept s) (c : Cause) (param : BitVec 12) :
    BusKept (s.enterStop c param) := by
  have recorded : BusKept (s.recordStop c param) := (h.setAlc _).queueAlert
  have forfeited := ((recorded.setAlc (x := { (s.recordStop c param).alc with
    savedMode := some (s.recordStop c param).mdc.mode })).changeMode .stopped).stopForfeit
  rw [State.enterStop_eq]
  refine BusKept.reviewBlocked ?_
  unfold State.holdForStop
  split
  · exact forfeited.setHoldStop true
  · exact forfeited

theorem BusKept.raise2 {s : State} (h : BusKept s) (c : Cause) (param : BitVec 12) :
    BusKept (s.raise2 c param) := by
  unfold State.raise2
  split
  · exact h.setAlc _
  · exact h.enterStop c param

theorem BusKept.endStop {s : State} (h : BusKept s) : BusKept s.endStop := by
  have returned : BusKept (s.setAlc s.alc.resume).queueAlert.returnMode := (h.setAlc _).queueAlert.changeMode _
  have settled : BusKept (s.setAlc s.alc.resume).queueAlert.returnMode.forgetMode.settle :=
    (returned.setAlc _).settle
  rw [State.endStop_eq]
  exact (settled.setDrc _).setHoldStop false

end Sys2Proof.Machine
end

section
/-! Every step keeps the bus interface, the round and the notice queue in agreement (O7): the commands one after
another. -/

namespace Sys2Proof.Machine

/-! ## Pulses and drops -/

section
variable {s : State} (h : BusKept s)
include h

theorem BusKept.setPtr (x : Tracker) : BusKept (s.setPtr x) := h.of_same rfl rfl rfl rfl

theorem BusKept.reach (t : Nat) : BusKept (s.reach t) := h.of_same rfl rfl rfl rfl

theorem BusKept.passClaim (e : Claim) (rest : List Claim) : BusKept (s.passClaim e rest) :=
  (((h.setDrc _).uncommit _ _).reviewIdle).raise1 _ _

omit h in
theorem BusKept.clearPassed {s : State} (h : BusKept s) (l : List Claim) : BusKept (s.clearPassed l) := by
  induction l generalizing s with
  | nil => exact h
  | cons e rest ih =>
    unfold State.clearPassed
    split
    · exact ih (h.passClaim e rest)
    · exact h

theorem BusKept.fire (e : Claim) (rest : List Claim) : BusKept (s.fire e rest) := by
  have aimed : BusKept (s.aim e rest) := h.setDrc _
  rcases Nat.lt_or_ge s.drc.falling.length 4 with room | full
  · rw [State.fire_of_room e rest room]
    exact aimed.setDrc _
  · rw [State.fire_of_full e rest full]
    exact (aimed.land e false).reviewIdle.raise1 _ _

theorem BusKept.arrival : BusKept s.arrival := by
  have cleared := h.clearPassed s.drc.claims
  unfold State.arrival
  dsimp only
  split
  · exact cleared
  · split
    · exact cleared.fire _ _
    · exact cleared

theorem BusKept.unannouncedPitch : BusKept s.unannouncedPitch := by
  have counted : ∀ silent, BusKept (s.countPitch silent) := fun _ => h.setPtr _
  by_cases eighth : s.ptr.unannounced = 7 ∧ s.ptr.gaugeSilent = false
  · rw [State.unannouncedPitch_of_eighth eighth.1 eighth.2]
    exact (counted true).raise1 _ _
  · rw [State.unannouncedPitch_of_other eighth]
    exact counted _

/-- Announce pending and the reserves are no concern of what is driven (R142, R143). -/
theorem BusKept.setReserves {t : State} (lbi : t.lbi = { s.lbi with
      announcePending := t.lbi.announcePending
      claimReserve := t.lbi.claimReserve, reclaimReserve := t.lbi.reclaimReserve })
    (clu : t.clu = s.clu) (rol : t.rol = s.rol) (mdc : t.mdc = s.mdc) : BusKept t where
  tx := State.txAgrees_transfer h.tx (by rw [lbi]) (by rw [clu]) (by rw [clu]) (by rw [rol])
    (by rw [rol]; exact fun _ m _ => m) (State.number_congr mdc) (by rw [lbi]; exact fun _ e => e)
  driving := by rw [lbi, mdc]; exact h.driving
  open_ := by rw [clu]; exact h.open_
  profiled := by rw [clu, mdc]; exact h.profiled
  bid := by rw [clu, State.number_congr mdc]; exact h.bid
  bids := by rw [clu, mdc]; exact h.bids
  queued := by rw [lbi]; exact { h.queued with }
  openRun := by rw [lbi]; exact h.openRun
  mismatches := by rw [lbi]; exact h.mismatches

theorem BusKept.expectAnnounce : BusKept s.expectAnnounce := by
  have before : BusKept (if s.ptr.announceExpected then s.unannouncedPitch else s) := by
    split
    · exact h.unannouncedPitch
    · exact h
  unfold State.expectAnnounce
  generalize (if s.ptr.announceExpected then s.unannouncedPitch else s) = u at before
  have awaited : BusKept (u.setPtr { u.ptr with announceExpected := true }) := before.setPtr _
  have begun : BusKept ((u.setPtr { u.ptr with announceExpected := true }).setLbi
      { u.lbi with announcePending := some u.now }) := awaited.setReserves rfl rfl rfl rfl
  exact begun.giveUpStart

theorem BusKept.countCoast : BusKept s.countCoast := by
  have counted : BusKept s.coastUp := h.setPtr _
  cases read : s.ptr.holdRead with
  | false => rwa [State.countCoast_of_open read]
  | true =>
    by_cases fourth : s.ptr.coast = 3
    · rw [State.countCoast_of_fourth read fourth]
      exact counted.raise1 _ _
    · rw [State.countCoast_of_other read fourth]
      exact counted

theorem BusKept.forwardPulse : BusKept s.forwardPulse := by
  cases synced : s.ptr.p with
  | none =>
    rw [State.forwardPulse_of_unsynced synced]
    exact h.expectAnnounce.countCoast.settle
  | some p =>
    have advanced : BusKept (s.advance p) := h.setPtr _
    rw [State.forwardPulse_of_synced synced]
    exact advanced.arrival.expire.expectAnnounce.countCoast.settle

theorem BusKept.endAnnouncePending : BusKept s.endAnnouncePending := by
  have stopped : BusKept s.stopPending := h.setReserves rfl rfl rfl rfl
  cases running : s.lbi.announcePending with
  | none => rwa [State.endAnnouncePending_of_stopped running]
  | some since =>
    have isRunning : s.lbi.announcePending.isSome = true := by simp [running]
    cases awaited : s.ptr.announceExpected with
    | false => rwa [State.endAnnouncePending_of_heard isRunning awaited]
    | true =>
      rw [State.endAnnouncePending_of_awaited isRunning awaited]
      exact stopped.unannouncedPitch

theorem BusKept.announcePendingEnd : BusKept s.announcePendingEnd := by
  unfold State.announcePendingEnd
  split
  · exact h
  · exact (h.reach _).endAnnouncePending

end

/-! ## The receiver while nothing is driven -/

/-- With nothing driven, the receiver may be in any state, and a LOST round may be over. -/
theorem BusKept.of_receiver {s t : State} (h : BusKept s) (idle : s.lbi.tx = none)
    (lbi : t.lbi = { s.lbi with
      receiver := t.lbi.receiver, openRun := t.lbi.openRun, announcePending := t.lbi.announcePending
      claimReserve := t.lbi.claimReserve, reclaimReserve := t.lbi.reclaimReserve })
    (openRun : t.lbi.openRun ≤ Config.idleRun) (clu : t.clu = s.clu ∨ t.clu = .atRest) (rol : t.rol = s.rol)
    (mdc : t.mdc = s.mdc) : BusKept t := by
  have received : BusKept (s.setLbi t.lbi) := by
    rw [lbi]
    exact
      { tx := State.txAgrees_transfer h.tx rfl rfl rfl rfl (fun _ m _ => m) rfl fun _ e => e
        driving := fun e => absurd e (by simp [idle])
        open_ := h.open_
        profiled := h.profiled
        bid := h.bid
        bids := h.bids
        queued := { h.queued with }
        openRun := openRun
        mismatches := h.mismatches }
  have tx : (s.setLbi t.lbi).lbi.tx = none := by rw [State.setLbi_lbi, lbi]; exact idle
  rcases clu with same | rest
  · exact received.of_same rfl same rol mdc
  · exact received.atRest (by rw [← tx]; rfl) rest
      (by rw [rol]; exact ((State.txAgrees_of_none idle).mp h.tx).2)

theorem ClaimUnit.afterFrame_cases (u : ClaimUnit) : u.afterFrame = u ∨ u.afterFrame = .atRest := by
  unfold ClaimUnit.afterFrame
  split
  · exact .inr rfl
  · exact .inl rfl

theorem ClaimUnit.afterIdle_cases (u : ClaimUnit) : u.afterIdle = u ∨ u.afterIdle = .atRest := by
  unfold ClaimUnit.afterIdle
  split
  · exact .inr rfl
  · exact .inl rfl

theorem State.tx_of_receiving {s : State} (h : s.receiving = true) :
    s.lbi.receiver = .inFrame ∧ s.lbi.tx = none := by
  simpa [State.receiving] using h

theorem State.frameEnd_tx (s : State) : s.frameEnd.lbi.tx = s.lbi.tx := by
  rw [State.frameEnd_eq]
  rfl

theorem BusKept.frameEnd {s : State} (h : BusKept s) (idle : s.lbi.tx = none) : BusKept s.frameEnd := by
  rw [State.frameEnd_eq]
  exact h.of_receiver idle rfl (Nat.zero_le _) s.clu.afterFrame_cases rfl rfl

theorem BusKept.endLost {s : State} (h : BusKept s) (idle : s.lbi.tx = none) : BusKept s.endLost :=
  h.of_receiver idle (by simp) (by simpa using h.openRun) (by simpa using s.clu.afterIdle_cases) (by simp) (by simp)

section
variable {s : State} (h : BusKept s)
include h

theorem BusKept.badFrame (kind : FrameKind) : BusKept (s.badFrame kind) := by
  cases kind with
  | announce => exact h.endAnnouncePending.setReserves rfl rfl rfl rfl
  | reoffer => exact h.setReserves rfl rfl rfl rfl
  | _ => exact h

theorem BusKept.cutShort (idle : s.lbi.tx = none) (kind : FrameKind) : BusKept (s.cutShort kind) := by
  have ended := h.frameEnd idle
  have tx : s.frameEnd.lbi.tx = none := by rw [State.frameEnd_tx, idle]
  have open_ : BusKept (s.frameEnd.setLbi { s.frameEnd.lbi with openRun := Config.idleRun }) :=
    ended.of_receiver tx rfl (Nat.le_refl _) (.inl rfl) rfl rfl
  have lost := open_.endLost tx
  unfold State.cutShort
  dsimp only
  split
  · exact lost.endAnnouncePending
  · exact lost

theorem BusKept.unknownKind (idle : s.lbi.tx = none) : BusKept s.unknownKind :=
  h.of_receiver idle rfl (Nat.zero_le _) (.inl rfl) rfl rfl

/-- Outside a frame nothing is driven (R136). -/
theorem BusKept.idle_of_receiver (outside : s.lbi.receiver ≠ .inFrame) : s.lbi.tx = none := by
  cases tx : s.lbi.tx with
  | none => rfl
  | some f => exact absurd (h.driving (by simp [tx])).1 outside

theorem BusKept.becomeIdle : BusKept s.becomeIdle := by
  unfold State.becomeIdle
  split
  · exact h
  · rename_i outside
    have idle := h.idle_of_receiver outside
    have open_ : BusKept (s.setLbi { s.lbi with receiver := .waitingStart, openRun := Config.idleRun }) :=
      h.of_receiver idle rfl (Nat.le_refl _) (.inl rfl) rfl rfl
    exact open_.endLost idle

theorem BusKept.startMark : BusKept s.startMark := by
  unfold State.startMark
  split
  · rename_i waiting
    exact h.of_receiver (h.idle_of_receiver (by simp [waiting])) rfl (Nat.zero_le _) (.inl rfl) rfl rfl
  · rename_i waiting
    have entered : BusKept (s.setLbi { s.lbi with receiver := .inFrame, openRun := 0 }) :=
      h.of_receiver (h.idle_of_receiver (by simp [waiting])) rfl (Nat.zero_le _) (.inl rfl) rfl rfl
    exact entered.giveUpStart
  · exact h

theorem BusKept.reserveEnds : BusKept s.claimReserveEnd ∧ BusKept s.reclaimReserveEnd := by
  constructor
  · unfold State.claimReserveEnd
    split
    · exact h
    · rename_i since _
      split
      · exact h
      · exact (h.reach (since + Config.reserveTime)).setReserves rfl rfl rfl rfl
  · unfold State.reclaimReserveEnd
    split
    · exact h
    · rename_i since _
      split
      · exact h
      · exact (h.reach (since + Config.reserveTime)).setReserves rfl rfl rfl rfl

end

/-! ## The claim round -/

theorem State.candidate_bid {s : State} {n : StationNo} {kind : RoundKind} {st : Stem} {c : Cradle}
    {x : Candidate} (h : s.candidate n kind st c = some x) : x.bid % 64 = n.val := by
  unfold State.candidate at h
  split at h
  · exact absurd h (by simp)
  · split at h
    · exact absurd h (by simp)
    · simp only [Option.ite_none_right_eq_some, Option.some.injEq] at h
      obtain ⟨-, rfl⟩ := h
      exact bidOf_mod_64 _ _ _ _

/-- The chosen candidate is that of one of the cradles, under the station's number (R39, R40). -/
theorem State.candidate_of_choose {s : State} {kind : RoundKind} {st : Stem} {x : Candidate}
    (h : s.choose kind st = some x) :
    ∃ n, s.number = some n ∧ ∃ c, s.candidate n kind st c = some x := by
  unfold State.choose at h
  split at h
  · exact absurd h (by simp)
  · rename_i n number
    refine ⟨n, number, ?_⟩
    split at h
    · split at h
      · exact ⟨.a, by simp_all⟩
      · exact ⟨.b, by simp_all⟩
    · exact ⟨.a, by simp_all⟩
    · exact ⟨.b, h⟩

theorem State.bids_of_eligible {s : State} {kind : RoundKind} {st : Stem} (h : s.eligible kind st = true) :
    s.mdc.mode.bids = true := by
  simp only [State.eligible, State.mayBid, Bool.and_eq_true] at h
  obtain ⟨⟨⟨⟨⟨bids, -⟩, -⟩, -⟩, -⟩, -⟩ := h
  exact bids

theorem State.isSome_profile_of_number {s : State} {n : StationNo} (h : s.number = some n) :
    s.mdc.profile.isSome = true := by
  cases k : s.mdc.profile with
  | none => simp [State.number, k] at h
  | some f => rfl

/-- While nothing is driven, a round may open with a candidate of the station (R31, R52). -/
theorem BusKept.openRound {s : State} (h : BusKept s) (idle : s.lbi.tx = none) (kind : RoundKind) (st : Stem) :
    BusKept (s.openRound kind st) := by
  have undriven : s.drivingClaim = false := by simp [State.drivingClaim, idle]
  have rest : BusKept s.stopClaimFrame.roundIdle := by
    rw [State.stopClaimFrame, if_neg (by simp [undriven])]
    exact h.of_receiver idle rfl h.openRun (.inr rfl) rfl rfl
  have tx : s.stopClaimFrame.roundIdle.lbi.tx = none := by
    rw [State.stopClaimFrame, if_neg (by simp [undriven])]
    exact idle
  unfold State.openRound
  dsimp only
  generalize s.stopClaimFrame.roundIdle = u at rest tx
  split
  · exact rest
  · rename_i c chosen
    split at chosen
    · rename_i eligible
      obtain ⟨n, number, cradle, candidate⟩ := State.candidate_of_choose chosen
      have profile := State.isSome_profile_of_number number
      exact { rest with
        tx := (State.txAgrees_of_none (s := u.setClu ⟨.bidding, some c, false⟩) tx).mpr ⟨by simp, ((State.txAgrees_of_none tx).mp rest.tx).2⟩
        open_ := by simp
        profiled := fun _ => profile
        bid := fun x m n' number' => by
          have same : n' = n := by
            have : some n' = some n := by rw [← number, ← number']; rfl
            simpa using this
          have own : x = c := by simpa [eq_comm] using m
          rw [own, same]
          exact State.candidate_bid candidate
        bids := fun _ => State.bids_of_eligible eligible }
    · exact absurd chosen (by simp)

theorem State.endCondition_tx (s : State) (c : Cause) : (s.endCondition c).lbi.tx = s.lbi.tx :=
  (s.endCondition_grows c).frame.2.2.1

theorem State.line_tx (s : State) (st : Stem) : (s.line st).lbi.tx = s.lbi.tx := by
  have resync : (s.resync st.tag).lbi.tx = s.lbi.tx := by
    cases synced : s.ptr.p with
    | none => rw [State.resync_of_unsynced _ synced]; rfl
    | some p =>
      by_cases same : p = st.tag
      · rw [State.resync_of_same (same ▸ synced)]
      · rw [State.resync_of_slip synced same]
        exact (State.raise1_grows _ _ _).frame.2.2.1
  unfold State.line
  split
  · exact resync
  · exact resync

theorem State.announced_tx (s : State) : s.announced.lbi.tx = s.lbi.tx := by
  unfold State.announced
  dsimp only
  split
  · exact State.endCondition_tx _ _
  · rfl

section
variable {s : State} (h : BusKept s)
include h

theorem BusKept.line (st : Stem) : BusKept (s.line st) := by
  have resynced : BusKept (s.resync st.tag) := by
    unfold State.resync
    split
    · exact h.setPtr _
    · split
      · exact h
      · exact (h.setPtr _).raise1 _ _
  unfold State.line
  split
  · exact resynced.setPtr _
  · exact resynced

theorem BusKept.announced : BusKept s.announced := by
  unfold State.announced
  dsimp only
  split
  · exact (h.setPtr _).endCondition _
  · exact h.setPtr _

theorem BusKept.announce (idle : s.lbi.tx = none) (st : Stem) : BusKept (s.announce st) := by
  have ended := h.frameEnd idle
  have heard := (ended.line st).announced
  have tx : (s.frameEnd.line st).announced.lbi.tx = none := by
    rw [State.announced_tx, State.line_tx, State.frameEnd_tx, idle]
  have tracked : BusKept (s.frameEnd.trackAnnounce st) := by
    rw [State.trackAnnounce_eq]
    split
    · exact heard.openRound tx _ _
    · exact heard
  exact tracked.endAnnouncePending.setReserves rfl rfl rfl rfl

theorem BusKept.reofferReceived (idle : s.lbi.tx = none) (st : Stem) :
    BusKept (s.frameEnd.takeReoffer st).openReclaimReserve := by
  have ended := h.frameEnd idle
  have tx : s.frameEnd.lbi.tx = none := by rw [State.frameEnd_tx, idle]
  have taken : BusKept (s.frameEnd.takeReoffer st) := by
    unfold State.takeReoffer
    split
    · exact ended.of_receiver tx rfl ended.openRun (.inr rfl) rfl rfl
    · exact ended.openRound tx _ _
  exact taken.setReserves rfl rfl rfl rfl

/-- The bidder drives its own claim frame (R41, R53). -/
theorem BusKept.startClaim (kind : RoundKind) (since : Option Nat) : BusKept (s.startClaim kind since) := by
  unfold State.startClaim
  split
  · exact h
  · rename_i c chosen
    split
    · rename_i starts
      obtain ⟨round, sameKind, idle⟩ := starts
      have profile := h.profiled (by simp [chosen])
      exact { h with
        tx := (State.txAgrees_of_claim rfl).mpr ⟨.inl round, ((State.txAgrees_of_none idle).mp h.tx).2,
          c, chosen, sameKind, rfl, rfl⟩
        driving := fun _ => ⟨rfl, profile⟩
        queued := { h.queued with }
        openRun := Nat.zero_le _ }
    · exact h

theorem BusKept.win : BusKept s.win := by
  unfold State.win
  split
  · rename_i wins
    obtain ⟨round, driving⟩ := wins
    obtain ⟨kind, tag, bid, tx⟩ := s.drivingClaim_iff.mp driving
    obtain ⟨-, sending, chosen⟩ := (State.txAgrees_of_claim tx).mp h.tx
    exact { h with
      tx := (State.txAgrees_of_claim (s := s.setClu { s.clu with round := .won }) tx).mpr ⟨.inr rfl, sending, chosen⟩
      open_ := iff_of_false (by simp) (h.open_.not.mp (by simp [round]))
      bids := fun _ => h.bids (.inl round) }
  · exact h

/-- What is given up stops the transmitter, and a claim frame takes its round with it. -/
theorem BusKept.stopDriving {t : State} (lbi : t.lbi = { s.lbi with
      tx := none, receiver := t.lbi.receiver, openRun := t.lbi.openRun, mismatches := t.lbi.mismatches })
    (openRun : t.lbi.openRun ≤ Config.idleRun) (mismatches : t.lbi.mismatches ≤ 1) (sending : t.rol.sending = none)
    (clu : t.clu = .atRest ∨ t.clu.round ≠ .won ∧ (t.clu.round = .bidding → s.clu.round = .bidding) ∧
      (t.clu.round = .idle ↔ s.clu.round = .idle) ∧ t.clu.chosen = s.clu.chosen)
    (mdc : t.mdc = s.mdc) : BusKept t := by
  have tx : t.lbi.tx = none := by rw [lbi]
  have queued : t.lbi.Queued := by rw [lbi]; exact { h.queued with }
  rcases clu with rest | ⟨notWon, bidding, idle, chosen⟩
  · exact
      { tx := (State.txAgrees_of_none tx).mpr ⟨by simp [rest, ClaimUnit.atRest], sending⟩
        driving := fun e => absurd e (by simp [tx])
        open_ := by simp [rest, ClaimUnit.atRest]
        profiled := fun e => absurd e (by simp [rest, ClaimUnit.atRest])
        bid := fun c m => absurd m (by simp [rest, ClaimUnit.atRest])
        bids := fun e => absurd e (by simp [rest, ClaimUnit.atRest])
        queued := queued
        openRun := openRun
        mismatches := mismatches }
  · exact
      { tx := (State.txAgrees_of_none tx).mpr ⟨notWon, sending⟩
        driving := fun e => absurd e (by simp [tx])
        open_ := by rw [idle, chosen]; exact h.open_
        profiled := by rw [chosen, mdc]; exact h.profiled
        bid := by rw [chosen, State.number_congr mdc]; exact h.bid
        bids := by
          rw [mdc]
          exact fun e => h.bids (.inl (bidding (e.resolve_right notWon)))
        queued := queued
        openRun := openRun
        mismatches := mismatches }

theorem BusKept.loseArbitration : BusKept s.loseArbitration := by
  unfold State.loseArbitration
  split
  · split
    · rename_i round
      exact h.stopDriving rfl h.openRun h.mismatches rfl
        (.inr ⟨by simp, fun e => absurd e (by simp), iff_of_false (by simp) (by simp [round]), rfl⟩) rfl
    · exact h
  · rename_i undriven
    split
    · have notWon : s.clu.round ≠ .won := fun won => undriven (State.drivingClaim_of_won h.tx won)
      exact h.stopDriving rfl h.openRun h.mismatches rfl (.inr ⟨notWon, id, Iff.rfl, rfl⟩) rfl
    · exact h

theorem BusKept.countMismatch : BusKept s.countMismatch := by
  have counted : ∀ n, n ≤ 1 → BusKept (s.setLbi { s.lbi with mismatches := n }) := fun n le =>
    { h with
      tx := State.txAgrees_transfer h.tx rfl rfl rfl rfl (fun _ m _ => m) rfl fun _ e => e
      queued := { h.queued with }
      mismatches := le }
  unfold State.countMismatch
  split
  · exact counted 1 (Nat.le_refl _)
  · exact (counted 0 (Nat.zero_le _)).raise2 _ _

theorem BusKept.mismatch (atStart : Bool) : BusKept (s.mismatch atStart) := by
  have receiver : (s.mismatchReceiver atStart).lbi = { s.lbi with
      receiver := (s.mismatchReceiver atStart).lbi.receiver
      openRun := (s.mismatchReceiver atStart).lbi.openRun
      mismatches := (s.mismatchReceiver atStart).lbi.mismatches } ∧
      (s.mismatchReceiver atStart).lbi.openRun ≤ Config.idleRun ∧
      (s.mismatchReceiver atStart).lbi.mismatches ≤ 1 := by
    unfold State.mismatchReceiver
    split
    · refine ⟨rfl, ?_, h.mismatches⟩
      dsimp only [State.setLbi]
      split <;> decide
    · exact ⟨rfl, h.openRun, h.mismatches⟩
  have frame : (s.mismatchReceiver atStart).clu = s.clu ∧ (s.mismatchReceiver atStart).mdc = s.mdc := by simp
  obtain ⟨lbi, openRun, mismatches⟩ := receiver
  obtain ⟨clu, mdc⟩ := frame
  have stopped := congrArg (fun l : LineBus => { l with tx := none }) lbi
  unfold State.mismatch
  split
  · refine BusKept.countMismatch ?_
    split
    · exact h.stopDriving stopped openRun mismatches rfl (.inl rfl) mdc
    · rename_i undriven
      have notWon : s.clu.round ≠ .won := fun won => undriven (State.drivingClaim_of_won h.tx won)
      exact h.stopDriving stopped openRun mismatches rfl
        (.inr (by simp only [State.stopDriving_frame, clu]; exact ⟨notWon, id, trivial, trivial⟩)) mdc
  · exact h

end

/-! ## The ends of the station's own frames -/

/-- The frame that ends leaves nothing driven, and the round at rest where it was won (R139, R148). -/
theorem BusKept.ownEnd {s t : State} (h : BusKept s) (lbi : t.lbi = { s.lbi.afterFrame with tx := none, mismatches := 0 })
    (sending : t.rol.sending = none) (mdc : t.mdc = s.mdc)
    (clu : t.clu = .atRest ∨ s.clu.round ≠ .won ∧ t.clu = s.clu.afterFrame) : BusKept t := by
  have ended : BusKept ((s.setLbi { s.lbi with tx := none, mismatches := 0, receiver := .waitingStart, openRun := 0 }).setRol
      t.rol |>.setClu t.clu) := by
    refine h.stopDriving rfl (Nat.zero_le _) (Nat.zero_le _) sending ?_ rfl
    rcases clu with rest | ⟨notWon, after⟩
    · exact .inl rest
    · rcases s.clu.afterFrame_cases with same | rest
      · exact .inr (by
          simp only [State.setClu_clu, after, same]
          exact ⟨notWon, id, trivial, trivial⟩)
      · exact .inl (by simp only [State.setClu_clu, after, rest])
  exact ended.setReserves (by rw [lbi]; rfl) rfl rfl mdc

theorem BusKept.wonFrameEnd {s : State} (h : BusKept s) (driving : s.drivingClaim = true) (c : Candidate) :
    BusKept (s.wonFrameEnd c) := by
  have sending := (State.round_of_drivingClaim h.tx driving).2
  have own : ∀ t : State, t.lbi = s.ownFrameEnd.lbi → t.rol.sending = none → t.mdc = s.mdc →
      BusKept t.roundIdle := fun t lbi sending mdc =>
    h.ownEnd (by simp [lbi, State.ownFrameEnd_eq]) (by simpa using sending) (by simpa using mdc) (.inl rfl)
  unfold State.wonFrameEnd
  refine BusKept.settle (own _ ?_ ?_ ?_) <;> split <;> simp [sending]

theorem BusKept.claimFrameEnd {s : State} (h : BusKept s) (kind : RoundKind) : BusKept (s.claimFrameEnd kind) := by
  unfold State.claimFrameEnd
  split
  · exact h
  · split
    · rename_i ends
      exact h.wonFrameEnd ends.2.2 _
    · exact h

theorem BusKept.reofferSent {s : State} (h : BusKept s) : BusKept s.reofferSent := by
  unfold State.reofferSent
  split
  · rename_i n st tx
    obtain ⟨notWon, -⟩ := (State.txAgrees_of_reoffer tx).mp h.tx
    have left : BusKept (s.ownFrameEnd.setRol
        { entries := s.rol.entries.filter fun e => s.rol.sending != some e.tag, sending := none }) :=
      h.ownEnd (by simp [State.ownFrameEnd_eq]) rfl (by simp) (.inr ⟨notWon, by simp [State.ownFrameEnd_eq]⟩)
    exact left.setReserves rfl rfl rfl rfl
  · exact h

theorem Queued.leaves {l : LineBus} (h : l.Queued) (keep : ¬ (l.resend = true ∧ l.notices.head? = some .alert)) :
    ({ l with notices := l.notices.tail } : LineBus).Queued where
  room := by
    have room := h.room
    simp only [List.length_tail]
    omega
  oneAlert := ((List.tail_sublist _).filter _).length_le.trans h.oneAlert
  resend := fun e => absurd ⟨e, h.resend e⟩ keep

/-- With nothing driven the queue may lose its head, and the flags may change (R149, R152). -/
theorem BusKept.setQueue {s t : State} (h : BusKept s) (idle : s.lbi.tx = none)
    (lbi : t.lbi = { s.lbi with
      notices := t.lbi.notices, lost := t.lbi.lost, lostDuring := t.lbi.lostDuring, resend := t.lbi.resend })
    (queued : t.lbi.Queued) (clu : t.clu = s.clu) (rol : t.rol = s.rol) (profile : t.mdc.profile = s.mdc.profile)
    (mode : t.mdc.mode = s.mdc.mode) : BusKept t where
  tx := by
    rw [State.txAgrees_of_none (by rw [lbi]; exact idle), clu, rol]
    exact (State.txAgrees_of_none idle).mp h.tx
  driving := by rw [lbi]; exact fun e => absurd e (by simp [idle])
  open_ := by rw [clu]; exact h.open_
  profiled := by rw [clu, profile]; exact h.profiled
  bid := by rw [clu, State.number, profile]; exact h.bid
  bids := by rw [clu, mode]; exact h.bids
  queued := queued
  openRun := by rw [lbi]; exact h.openRun
  mismatches := by rw [lbi]; exact h.mismatches

theorem BusKept.noticeLeaves {s : State} (h : BusKept s) (idle : s.lbi.tx = none) : BusKept s.noticeLeaves := by
  unfold State.noticeLeaves
  split
  · exact h.setQueue idle rfl { h.queued with resend := fun e => absurd e (by simp) } rfl rfl rfl rfl
  · rename_i keep
    exact h.setQueue idle rfl (Queued.leaves h.queued keep) rfl rfl rfl rfl

theorem BusKept.startJoinTimer {s : State} (h : BusKept s) (f : Frame) : BusKept (s.startJoinTimer f) := by
  unfold State.startJoinTimer
  split
  · split
    · exact h.of_list rfl rfl rfl (fun _ m _ => m) rfl h.bids
    · exact h
  · exact h

theorem BusKept.noticeSent {s : State} (h : BusKept s) : BusKept s.noticeSent := by
  unfold State.noticeSent
  split
  · exact h
  · exact h
  · exact h
  · rename_i f notClaim notReoffer tx
    have notice : f.isNotice = true := by
      obtain ⟨kind, tag, bid, rfl⟩ | ⟨n, st, rfl⟩ | notice := f.cases_kind
      · exact absurd rfl (notClaim kind tag bid)
      · exact absurd rfl (notReoffer n st)
      · exact notice
    obtain ⟨notWon, sending, -⟩ := (State.txAgrees_of_notice tx notice).mp h.tx
    have own : BusKept s.ownFrameEnd :=
      h.ownEnd (by simp [State.ownFrameEnd_eq]) (by simpa using sending) (by simp)
        (.inr ⟨notWon, by simp [State.ownFrameEnd_eq]⟩)
    have idle : s.ownFrameEnd.lbi.tx = none := by simp [State.ownFrameEnd_eq]
    have cleared : BusKept (s.ownFrameEnd.clearLost f) := by
      unfold State.clearLost
      split
      · exact own.setQueue idle rfl { own.queued with } rfl rfl rfl rfl
      · exact own
    have clearedIdle : (s.ownFrameEnd.clearLost f).lbi.tx = none := by
      unfold State.clearLost
      split <;> exact idle
    exact (cleared.noticeLeaves clearedIdle).startJoinTimer f

/-! ## The starts of the station's own frames -/

/-- The station may start a frame with nothing driven and a profile accepted (R141). -/
theorem State.startPoint_iff (s : State) :
    s.startPoint = true ↔ (s.lbi.receiver = .waitingStart ∧ s.lbi.openRun = 11) ∧ s.lbi.tx = none ∧
      s.lbi.announcePending = none ∧ s.lbi.claimReserve = none ∧ s.lbi.reclaimReserve = none ∧
      s.mdc.profile.isSome = true := by
  simp [State.startPoint, State.busIdle, Config.idleRun, and_assoc]

theorem State.frameOf_isNotice (s : State) (n : StationNo) (q : Notice) :
    (s.frameOf n q).isNotice = true ∧ (s.frameOf n q).carries q = true := by
  cases q with
  | status topic body => cases body <;> simp [State.frameOf, Frame.isNotice, Frame.carries]
  | _ => simp [State.frameOf, Frame.isNotice, Frame.carries]

/-- A notice is started from the head of the queue (R149, R151, R152). -/
theorem BusKept.startNotice {s : State} (h : BusKept s) (idle : s.lbi.tx = none)
    (profile : s.mdc.profile.isSome = true) : BusKept s.startNotice := by
  unfold State.startNotice
  split
  · rename_i number n rest _ notices
    dsimp only
    obtain ⟨notice, carries⟩ := s.frameOf_isNotice number n
    obtain ⟨notWon, sending⟩ := (State.txAgrees_of_none idle).mp h.tx
    have drives : ∀ t : State, BusKept t → t.lbi.notices = s.lbi.notices → t.clu = s.clu → t.rol = s.rol →
        t.mdc = s.mdc → BusKept (t.drive (s.frameOf number n)) := by
      intro t kept same clu rol mdc
      exact { kept with
        tx := by
          rw [State.txAgrees_of_notice (s := t.drive (s.frameOf number n)) rfl notice]
          refine ⟨by simpa [clu] using notWon, by simpa [rol] using sending, n, ?_, carries⟩
          simp [State.drive, same, notices]
        driving := fun _ => ⟨rfl, by simpa [mdc] using profile⟩
        queued := { kept.queued with }
        openRun := Nat.zero_le _ }
    refine drives _ ?_ ?_ ?_ ?_ ?_
    · have lostDuring : BusKept (if (s.frameOf number n).lostField.isSome then
          s.setLbi { s.lbi with lostDuring := false } else s) := by
        split
        · exact h.setQueue idle rfl { h.queued with } rfl rfl rfl rfl
        · exact h
      have still : (if (s.frameOf number n).lostField.isSome then
          s.setLbi { s.lbi with lostDuring := false } else s).lbi.tx = none := by
        split <;> exact idle
      split
      · exact lostDuring.setQueue still rfl
          { lostDuring.queued with resend := fun e => absurd e (by simp) } rfl rfl rfl rfl
      · exact lostDuring
    all_goals (repeat' split) <;> rfl
  · exact h

theorem BusKept.startReoffer {s : State} (h : BusKept s) (idle : s.lbi.tx = none)
    (profile : s.mdc.profile.isSome = true) : BusKept s.startReoffer := by
  unfold State.startReoffer
  split
  · rename_i number st rest isNumber entries
    obtain ⟨notWon, -⟩ := (State.txAgrees_of_none idle).mp h.tx
    exact { h with
      tx := (State.txAgrees_of_reoffer rfl).mpr ⟨notWon, isNumber, rfl, by simp [State.drive, entries]⟩
      driving := fun _ => ⟨rfl, profile⟩
      queued := { h.queued with }
      openRun := Nat.zero_le _ }
  · exact h

theorem BusKept.reofferSend {s : State} (h : BusKept s) : BusKept s.reofferSend := by
  unfold State.reofferSend
  split
  · rename_i starts
    obtain ⟨-, idle, -, -, -, profile⟩ := s.startPoint_iff.mp (Bool.and_eq_true_iff.mp starts).1
    split
    · exact h.expire.startNotice idle profile
    · exact h.expire.startReoffer idle profile
  · exact h

theorem BusKept.noticeSend {s : State} (h : BusKept s) : BusKept s.noticeSend := by
  unfold State.noticeSend
  split
  · rename_i starts
    simp only [Bool.and_eq_true] at starts
    obtain ⟨-, idle, -, -, -, profile⟩ := s.startPoint_iff.mp starts.1.1
    exact h.expire.startNotice idle profile
  · exact h

end Sys2Proof.Machine
end

section
/-! Every step keeps the bus interface, the round and the notice queue in agreement: the remaining commands, and the
statement (O7). -/

namespace Sys2Proof.Machine

section
variable {s : State} (h : BusKept s)
include h

/-! ## Cradles and drops -/

theorem BusKept.setBeam (c : Cradle) (b : Beam) : BusKept (s.setBeam c b) :=
  h.of_same (by simp) (by simp) (by simp) (by simp)

theorem BusKept.cradlePlaced (c : Cradle) : BusKept (s.cradlePlaced c) := by
  unfold State.cradlePlaced
  split
  · exact (h.setCradle c _).settle
  · exact h

theorem BusKept.removeStale (c : Cradle) : BusKept (s.removeStale c) := by
  unfold State.removeStale
  dsimp only
  split
  · exact h.setCradle c _
  · exact (h.setCradle c _).endCondition _

theorem BusKept.forfeitCradle (c : Cradle) : BusKept (s.forfeitCradle c) := by
  unfold State.forfeitCradle
  exact (h.setDrc _).reofferAll _

theorem BusKept.removePremature (c : Cradle) : BusKept (s.removePremature c) := by
  have unbound : ∀ t, BusKept t → ∀ o : Option Nat, BusKept (match o with
      | none => t
      | some i => t.onRecipe i Recipe.unbound) := by
    intro t kept o
    cases o with
    | none => exact kept
    | some i => exact kept.onRecipe i _
  have reported : ∀ t, BusKept t → ∀ (b : Bool) (f : Bunch), BusKept (if b then t else t.joinNotice (.bunch f)) := by
    intro t kept b f
    split
    · exact kept
    · exact kept.joinNotice (by simp)
  have gone : BusKept ((s.forfeitCradle c).discardFalling c) := (h.forfeitCradle c).setDrc _
  exact ((reported _ (unbound _ (gone.setCradle c _) _) _ _).setCradle c _).reviewIdle.raise1 _ _

theorem BusKept.cradleLifted (c : Cradle) : BusKept (s.cradleLifted c) := by
  unfold State.cradleLifted
  split
  · exact h
  · exact (h.removeStale c).settle
  · exact (h.setCradle c _).settle
  · exact (h.setCradle c _).settle
  · exact (h.removePremature c).settle
  · exact (h.removePremature c).settle

theorem BusKept.removalOverdue (c : Cradle) : BusKept (s.removalOverdue c) := by
  unfold State.removalOverdue
  split
  · exact h
  · exact ((h.reach _).setCradle c _).raise1 _ _

theorem BusKept.judgeBreak (c : Cradle) : BusKept (s.judgeBreak c) := by
  unfold State.judgeBreak
  split
  · exact h.raise1 _ _
  · exact ((h.setDrc _).land _ _).setDrc _

theorem BusKept.beamBreaks (c : Cradle) : BusKept (s.beamBreaks c) := by
  unfold State.beamBreaks
  split
  · exact h
  · exact ((h.setBeam c _).judgeBreak c).settle

theorem BusKept.beamClears (c : Cradle) : BusKept (s.beamClears c) := by
  unfold State.beamClears
  split
  · exact h.setBeam c _
  · exact h

theorem BusKept.windowOpen : BusKept s.windowOpen := h.of_same (by simp) (by simp) (by simp) (by simp)

theorem BusKept.gatePulseEnd : BusKept s.gatePulseEnd := h.of_same (by simp) (by simp) (by simp) (by simp)

theorem BusKept.miss : BusKept s.miss := by
  have counted : ∀ t : State, BusKept t → ∀ c, BusKept (t.countMiss c) := by
    intro t kept c
    unfold State.countMiss
    dsimp only
    split
    · exact (kept.setDrc _).raise2 _ _
    · exact kept.setDrc _
  have missed : ∀ t : State, BusKept t → ∀ f rest, BusKept (t.missed f rest) := by
    intro t kept f rest
    have lost : BusKept (t.loseStem f rest) := ((kept.setDrc _).uncommit _ _).reviewIdle.raise1 _ _
    rw [State.missed_eq]
    exact (counted _ lost _).settle
  unfold State.miss
  split
  · exact h
  · split
    · exact missed _ (h.reach _) _ _
    · exact h

theorem BusKept.gateStuck (c : Cradle) : BusKept (s.gateStuck c) := by
  unfold State.gateStuck
  split
  · exact h
  · dsimp only
    split
    · exact ((h.reach _).setBeam c _).raise2 _ _
    · exact h

/-! ## The panel -/

theorem BusKept.refusePulse : BusKept s.refusePulse := h.setAlc _

theorem BusKept.pull (c : Cradle) : BusKept (s.pull c) := by
  unfold State.pull
  split
  · exact ((h.setCradle c _).afterLoss c).settle
  · exact h.refusePulse

theorem BusKept.finish (c : Cradle) (key : Bool) : BusKept (s.finish c key) := by
  unfold State.finish
  split
  · exact (((h.forfeitCradle c).setCradle c _).complete c .short).settle
  · exact h.refusePulse

theorem BusKept.retire1 : BusKept s.retire1 := (h.setAlc _).queueAlert

theorem BusKept.clear (key : Bool) : BusKept (s.clear key) := by
  unfold State.clear
  split
  · exact h.refusePulse
  · split
    · split
      · unfold State.retire2
        split
        · exact (h.setAlc _).queueAlert
        · exact h.endStop
      · exact h.refusePulse
    · split
      · exact h.refusePulse
      · exact h.retire1

theorem BusKept.drain : BusKept s.drain := by
  unfold State.drain
  split
  · exact (h.changeMode _).settle
  · exact h.refusePulse

theorem BusKept.resume : BusKept s.resume := by
  unfold State.resume
  split
  · exact (h.changeMode _).settle
  · exact h.refusePulse

theorem BusKept.refusePulseEnd : BusKept s.refusePulseEnd := h.of_same (by simp) (by simp) (by simp) (by simp)

/-! ## The profile, the join timer, and numbers heard -/

theorem BusKept.joinTimerEnd : BusKept s.joinTimerEnd := by
  unfold State.joinTimerEnd
  split
  · rename_i since _
    have timer : BusKept ((s.reach (since + Config.joinTime)).setMdc { s.mdc with joinTimer := .stopped }) :=
      h.of_list rfl rfl rfl (fun _ m _ => m) rfl h.bids
    dsimp only
    split
    · exact (timer.changeMode _).settle
    · split
      · exact timer.setAlc _
      · exact timer
  · exact h

/-- With nothing driven and no round open, a profile may be accepted (R158). -/
theorem BusKept.acceptProfile (none : s.mdc.profile = none) (img : List Byte) : BusKept (s.acceptProfile img) := by
  have idle : s.lbi.tx = .none := by
    cases tx : s.lbi.tx with
    | none => rfl
    | some f => exact absurd (h.driving (by simp [tx])).2 (by simp [none])
  have closed : s.clu.chosen = .none := by
    cases chosen : s.clu.chosen with
    | none => rfl
    | some c => exact absurd (h.profiled (by simp [chosen])) (by simp [none])
  have accepted : BusKept ((s.setMdc { s.mdc with profileRead := .done, profile := some (profileOf img) }).setRct
      (recipesOf img)) :=
    { h with
      tx := by
        rw [State.txAgrees_of_none (by exact idle)]
        exact (State.txAgrees_of_none idle).mp h.tx
      driving := fun e => absurd e (by simp [idle])
      profiled := fun e => absurd e (by simp [closed])
      bid := fun c m => absurd m (by simp [closed]) }
  have joined := accepted.joinNotice (n := .join (joinFieldsOf (profileOf img) (recipesOf img))) (by simp)
  unfold State.acceptProfile
  dsimp only
  refine BusKept.settle ?_
  unfold State.enterJoining
  have waiting := joined.of_list (t := State.setMdc _ { (State.joinNotice _ _).mdc with joinTimer := .waiting })
    rfl rfl rfl (fun _ m _ => m) rfl joined.bids
  split
  · exact waiting.setAlc _
  · exact waiting.changeMode _

theorem BusKept.profileReadEnd (unread : s.mdc.profileRead = .reading → s.mdc.profile = none)
    (memory : SerialMemory) : BusKept (s.profileReadEnd memory) := by
  have done : BusKept (s.setMdc { s.mdc with profileRead := .done }) :=
    h.of_list rfl rfl rfl (fun _ m _ => m) rfl h.bids
  unfold State.profileReadEnd
  split
  · rename_i reading
    split
    · exact done.raise2 _ _
    · exact h.acceptProfile (unread reading) _
    · exact h
  · exact h

theorem BusKept.joinHeard (n : StationNo) : BusKept (s.joinHeard n) := by
  unfold State.joinHeard
  split
  · exact (h.joinNotice (by simp)).raise2 _ _
  · exact h

theorem BusKept.conflictHeard (n : StationNo) : BusKept (s.conflictHeard n) := by
  unfold State.conflictHeard
  split
  · exact h.raise2 _ _
  · exact h

omit h in
theorem BusKept.joinAll {s : State} (h : BusKept s) {l : List Notice} (other : ∀ n ∈ l, n ≠ .alert) :
    BusKept (s.joinAll l) := by
  induction l generalizing s with
  | nil => exact h
  | cons n ns ih => exact ih (h.joinNotice (other n (by simp))) fun m mem => other m (by simp [mem])

theorem BusKept.queried (n : StationNo) (topic : Fin 16) : BusKept (s.queried n topic) := by
  unfold State.queried State.respond
  split
  · split
    · exact h.discardNotice
    · exact h.joinAll (by simp)
  · exact h

/-! ## Every command -/

theorem BusKept.readHold : BusKept s.readHold := h.of_same (by simp) (by simp) (by simp) (by simp)

theorem BusKept.told (p : Pin) (level : Bool) : BusKept (s.told p level) := h.of_same rfl rfl rfl rfl

theorem BusKept.operate (unread : s.mdc.profileRead = .reading → s.mdc.profile = none) (c : Instr) :
    BusKept (s.operate c) := by
  have heard := fun (f : State → State) (k : s.lbi.tx = none → BusKept (f s)) =>
    State.hears_keeps (P := BusKept) (s := s) (f := f) h fun receiving => k (State.tx_of_receiving receiving).2
  have pressed := fun (f : State → State) (b : Pin) => State.pressed_keeps (P := BusKept) (s := s) (f := f) b h
  have ended := fun idle => h.frameEnd idle
  cases c with
  | reset _ => exact h
  | resetHeld => exact h
  | profileReadEnd memory => exact h.profileReadEnd unread memory
  | forwardPulse => exact h.forwardPulse
  | reversePulse => exact h.setPtr _
  | announce st => exact heard (·.announce st) fun idle => h.announce idle st
  | announcePendingEnd => exact h.announcePendingEnd
  | holdLevelChange marked => exact (h.setPtr _).readHold
  | claimStart => exact h.startClaim _ _
  | reclaimStart => exact h.startClaim _ _
  | arbitrationLoss => exact h.loseArbitration
  | transmitMismatch atStart => exact h.mismatch atStart
  | claimSent => exact h.claimFrameEnd .claim
  | reclaimSent => exact h.claimFrameEnd .reclaim
  | claimReceived _ => exact heard State.frameEnd ended
  | reofferReceived _ st =>
    exact heard (fun s => (s.frameEnd.takeReoffer st).openReclaimReserve) fun idle => h.reofferReceived idle st
  | badCheckFrame kind => exact heard (·.frameEnd.badFrame kind) fun idle => (ended idle).badFrame kind
  | frameCutShort kind => exact heard (·.cutShort kind) fun idle => h.cutShort idle kind
  | unknownKindFrame _ => exact heard State.unknownKind h.unknownKind
  | busIdle => exact h.becomeIdle
  | claimReserveEnd => exact h.reserveEnds.1
  | reclaimReserveEnd => exact h.reserveEnds.2
  | reofferSend => exact h.reofferSend
  | reofferSent => exact h.reofferSent
  | noticeSend => exact h.noticeSend
  | noticeSent => exact h.noticeSent
  | joinTimerEnd => exact h.joinTimerEnd
  | joinReceived n => exact heard (·.frameEnd.joinHeard n) fun idle => (ended idle).joinHeard n
  | conflictReceived n => exact heard (·.frameEnd.conflictHeard n) fun idle => (ended idle).conflictHeard n
  | noticeReceived _ => exact heard State.frameEnd ended
  | query n topic => exact heard (·.frameEnd.queried n topic) fun idle => (ended idle).queried n topic
  | cradlePresent c => exact (h.told _ _).cradlePlaced c
  | cradleAbsent c => exact (h.told _ _).cradleLifted c
  | beamBlocked c => exact (h.told _ _).beamBreaks c
  | beamClear c => exact (h.told _ _).beamClears c
  | windowOpen => exact h.windowOpen
  | miss => exact h.miss
  | gatePulseEnd => exact h.gatePulseEnd
  | gateStuck c => exact h.gateStuck c
  | removalOverdue c => exact h.removalOverdue c
  | pull c => exact pressed (·.pull c) _ (h.pull c)
  | finish c key => exact pressed (·.finish c key) _ (h.finish c key)
  | clear key => exact pressed (·.clear key) _ (h.clear key)
  | cancel => exact pressed (fun s => s.setAlc { s.alc with pend1 := s.pendingConditions }) _ (h.setAlc _)
  | drain => exact pressed State.drain _ h.drain
  | resume => exact pressed State.resume _ h.resume
  | refusePulseEnd => exact h.refusePulseEnd
  | startMark => exact h.startMark
  | won => exact h.win

/-- The open bits of a bit time stop short of the idle bus (R139, R141). -/
theorem BusKept.tick : BusKept s.tick := by
  unfold State.tick
  dsimp only
  split
  · exact h.of_same rfl rfl rfl rfl
  · unfold State.openBit
    split
    · rename_i outside
      exact h.of_receiver (h.idle_of_receiver outside.1) rfl (Nat.le_of_lt outside.2) (.inl rfl) rfl rfl
    · exact h.of_same rfl rfl rfl rfl

theorem BusKept.released : BusKept s.released := h.atRest rfl rfl rfl

theorem BusKept.whileHeld (c : Instr) : BusKept (s.whileHeld c) := by
  cases c with
  | beamBlocked c => exact h.told _ _
  | beamClear c => exact h.told _ _
  | cradlePresent c => exact h.told _ _
  | cradleAbsent c => exact h.told _ _
  | holdLevelChange marked => exact h.setPtr _
  | _ => exact h

end

/-- In a sound state no profile is held while one is being read (R154). -/
theorem Books.unread {s : State} (h : Books s) : s.mdc.profileRead = .reading → s.mdc.profile = none := by
  obtain ⟨-, -, -, -, -, -, -, -, -, -, -, unread, -⟩ := h
  exact unread

/-- Settles O7: what is driven by its kind, the round by what ends it, and the notice queue by what joins it. -/
theorem everyStepKeepsTheBusInStep : Obligations.EveryStepKeepsTheBusInStep := by
  intro s t sound h
  have kept : ∀ u, Sound u → BusKept u := fun u soundU => (busAgrees_iff u).mp soundU.2.2.1
  exact step_keeps sound h (fun u soundU => soundU.2.2.1) ((busAgrees_iff _).mpr (kept s sound).tick)
    (fun u soundU => (busAgrees_iff _).mpr (kept u soundU).released)
    (fun c u soundU _ => (busAgrees_iff _).mpr ((kept u soundU).whileHeld c))
    (fun c u soundU _ => (busAgrees_iff _).mpr ((kept u soundU).operate soundU.1.unread c))

end Sys2Proof.Machine
end

section
/-! The line bus: frames taken only for their end, marks, the idle bus and the reserves, and a frame that loses
arbitration, starts or is won (R14, R41 to R43, R53, R139 to R146). -/

namespace Sys2Proof.Machine

variable {s : State}

/-! ## HOLD -/

/-- Settles O20. -/
theorem holdLevelChangeSetsTheEpisode : Obligations.HoldLevelChangeSetsTheEpisode := by
  intro s marked run
  rw [exec_holdLevelChange_eq, running_of_running _ (by simpa using run)]
  refine congrArg _ ?_
  simp only [State.readHold, State.holdDrive, State.setPtr_ptr, State.setPtr_again]
  split
  · rename_i same
    simp only [same, if_true]
  · rename_i other
    simp only [other, if_false]

/-! ## Frames of other devices -/

/-- The frame of another device, while RESETN is high and one is being received. -/
theorem running_of_receiving (f : State → State) (run : s.inReset = false) (receiving : s.receiving = true) :
    running s (fun s => if s.receiving then f s else s) = .next (f s) := by
  rw [running_of_running _ run, if_pos receiving]

theorem isPassiveNotice_iff (kind : FrameKind) :
    kind.isPassiveNotice = true ↔ kind = .alert ∨ kind = .bunch ∨ kind = .quota ∨ kind = .status := by
  cases kind <;> decide

@[simp] theorem State.frameEnd_number : s.frameEnd.number = s.number := State.number_congr (by simp)

/-- A kind that ends no period and opens no reserve leaves a bad frame at its end (R140). -/
theorem State.badFrame_of_other {kind : FrameKind} (announce : kind ≠ .announce) (reoffer : kind ≠ .reoffer) :
    s.badFrame kind = s := by
  cases kind with
  | announce => exact absurd rfl announce
  | reoffer => exact absurd rfl reoffer
  | _ => rfl

/-- Settles O21. -/
theorem framesTakenOnlyForTheirEnd : Obligations.FramesTakenOnlyForTheirEnd := by
  intro s k kind bad n topic run receiving t
  have ends : .next t = (.next s.frameEnd : Host.Outcome State Fault Refusal) :=
    congrArg _ s.frameEnd_eq.symm
  rw [ends]
  refine ⟨?_, fun passive => ?_, fun announce reoffer => ?_, fun other => ⟨?_, ?_, ?_⟩⟩
  · rw [exec_claimReceived_eq, running_of_receiving _ run receiving]
  · rw [exec_noticeReceived_eq ((isPassiveNotice_iff kind).mpr passive), running_of_receiving _ run receiving]
  · rw [exec_badCheckFrame_eq, running_of_receiving _ run receiving, State.badFrame_of_other announce reoffer]
  · rw [exec_joinReceived_eq, running_of_receiving _ run receiving, State.joinHeard, State.frameEnd_number,
      if_neg other]
  · rw [exec_conflictReceived_eq, running_of_receiving _ run receiving, State.conflictHeard,
      State.frameEnd_number, if_neg other]
  · rw [exec_query_eq, running_of_receiving _ run receiving, State.queried, State.frameEnd_number, if_neg other]

/-! ## Marks, the idle bus, the ends of the reserves -/

/-- A bidder before its start gives up, and nothing else changes (R41). -/
theorem State.giveUpStart_eq :
    s.giveUpStart = s.setClu (if s.clu.round = .bidding ∧ s.drivingClaim = false then
      { s.clu with round := .lost, gaveUp := true } else s.clu) := by
  unfold State.giveUpStart
  split <;> rfl

theorem State.endLost_eq : s.endLost = s.setClu s.clu.afterIdle := by
  unfold State.endLost ClaimUnit.afterIdle
  split <;> rfl

/-- Settles O23. -/
theorem marksIdleAndReserveEnds : Obligations.MarksIdleAndReserveEnds := by
  intro s since run outside
  refine ⟨fun start => ?_, fun idle => ?_, ?_, fun claim => ?_, fun reclaim => ?_⟩
  · rw [exec_startMark_eq, running_of_running _ run, State.startMark, start]
    exact congrArg _ State.giveUpStart_eq
  · rw [exec_startMark_eq, running_of_running _ run, State.startMark, idle]
  · rw [exec_busIdle_eq, running_of_running _ run, State.becomeIdle, if_neg outside]
    exact congrArg _ State.endLost_eq
  · rw [exec_claimReserveEnd_eq, running_of_running _ run, State.claimReserveEnd, claim]
    exact congrArg _ (if_neg outside)
  · rw [exec_reclaimReserveEnd_eq, running_of_running _ run, State.reclaimReserveEnd, reclaim]
    exact congrArg _ (if_neg outside)

/-! ## A frame of the station: lost, started, won -/

/-- Settles O24. -/
theorem arbitrationLossStopsDriving : Obligations.ArbitrationLossStopsDriving := by
  intro s f run driven bidding
  rw [exec_arbitrationLoss_eq, running_of_running _ run, State.loseArbitration]
  refine congrArg _ ?_
  cases claim : s.drivingClaim with
  | true => simp only [bidding claim, if_true]; rfl
  | false => simp only [driven, Option.isSome_some, if_true, Bool.false_eq_true, if_false]; rfl

/-- A bidder starts its claim frame at the time due (R41, R144). -/
theorem State.startClaim_of_bidding {c : Candidate} {since : Nat} (bidding : s.clu.round = .bidding)
    (chosen : s.clu.chosen = some c) (silent : s.lbi.tx = none) :
    s.startClaim c.kind (some since) = (s.setNow (max s.now (since + 8))).setLbi { s.lbi with
      tx := some (.claim c.kind c.stem.tag c.bid), receiver := .inFrame, openRun := 0 } := by
  rw [State.startClaim, chosen]
  exact if_pos ⟨bidding, rfl, silent⟩

/-- Settles O26. -/
theorem claimFrameStartsAndIsWon : Obligations.ClaimFrameStartsAndIsWon := by
  intro s c since run bidding chosen
  refine ⟨fun silent kind reserve => ?_, fun silent kind reserve => ?_, fun driven => ?_⟩
  · rw [exec_claimStart_eq, running_of_running _ run, reserve]
    exact congrArg _ (kind ▸ State.startClaim_of_bidding bidding chosen silent)
  · rw [exec_reclaimStart_eq, running_of_running _ run, reserve]
    exact congrArg _ (kind ▸ State.startClaim_of_bidding bidding chosen silent)
  · have claim : s.drivingClaim = true := by simp [State.drivingClaim, driven]
    rw [exec_won_eq, running_of_running _ run, State.win, if_pos ⟨bidding, claim⟩]

end Sys2Proof.Machine
end

section
/-! Announcements and announce pending (R7 to R12, R31, R40, R139 to R143): what they leave at the tracker, the bus
interface and the Claim Unit, and the frames that fail. -/

namespace Sys2Proof.Machine

variable {s : State}

/-! ## The unannounced pitch -/

/-- The unannounced pitch at the tracker (R11, R12). -/
theorem State.unannouncedPitch_ptr (s : State) :
    s.unannouncedPitch.ptr = { s.ptr with
      unannounced := min 255 (s.ptr.unannounced + 1), announceExpected := false
      gaugeSilent := s.ptr.gaugeSilent || s.ptr.unannounced == 7 } := by
  by_cases eighth : s.ptr.unannounced = 7 ∧ s.ptr.gaugeSilent = false
  · rw [State.unannouncedPitch_of_eighth eighth.1 eighth.2]
    simp [State.countPitch, eighth]
  · rw [State.unannouncedPitch_of_other eighth]
    have same : (s.ptr.gaugeSilent || s.ptr.unannounced == 7) = s.ptr.gaugeSilent := by
      cases silent : s.ptr.gaugeSilent with
      | true => rfl
      | false => simpa using fun e => eighth ⟨e, silent⟩
    simp [State.countPitch, same]

theorem State.unannouncedPitch_grows (s : State) : s.lbi.NoticesGrow s.unannouncedPitch.lbi := by
  by_cases eighth : s.ptr.unannounced = 7 ∧ s.ptr.gaugeSilent = false
  · rw [State.unannouncedPitch_of_eighth eighth.1 eighth.2]
    exact State.raise1_grows (s.countPitch true) _ _
  · rw [State.unannouncedPitch_of_other eighth]
    exact .refl _

/-- The tracker counts a pitch as announce pending ends with its announcement awaited (R11, R142). -/
theorem State.endAnnouncePending_tracker (s : State) :
    s.endAnnouncePending.ptr =
      if s.lbi.announcePending.isSome ∧ s.ptr.announceExpected = true then s.unannouncedPitch.ptr
      else s.ptr := by
  cases pending : s.lbi.announcePending with
  | none => simp [State.endAnnouncePending_of_stopped pending]
  | some since =>
    have running : s.lbi.announcePending.isSome = true := by simp [pending]
    cases awaited : s.ptr.announceExpected with
    | true =>
      rw [State.endAnnouncePending_of_awaited running awaited]
      simp [State.unannouncedPitch_ptr, State.stopPending]
    | false =>
      rw [State.endAnnouncePending_of_heard running awaited]
      simp [State.stopPending]

theorem State.endAnnouncePending_grows (s : State) :
    ({ s.lbi with announcePending := none } : LineBus).NoticesGrow s.endAnnouncePending.lbi := by
  cases pending : s.lbi.announcePending with
  | none =>
    rw [State.endAnnouncePending_of_stopped pending, ← pending]
    exact .refl _
  | some since =>
    have running : s.lbi.announcePending.isSome = true := by simp [pending]
    cases awaited : s.ptr.announceExpected with
    | true =>
      rw [State.endAnnouncePending_of_awaited running awaited]
      exact s.stopPending.unannouncedPitch_grows
    | false =>
      rw [State.endAnnouncePending_of_heard running awaited]
      exact .refl _

/-- With the announcement heard, announce pending ends and nothing else (R142). -/
theorem State.endAnnouncePending_heard (heard : s.ptr.announceExpected = false) :
    s.endAnnouncePending = s.stopPending := by
  cases pending : s.lbi.announcePending with
  | none =>
    rw [State.endAnnouncePending_of_stopped pending, State.stopPending, ← pending]
    exact (State.setLbi_same s).symm
  | some since => exact State.endAnnouncePending_of_heard (by simp [pending]) heard

/-- Settles O19. -/
theorem announcePendingEndCountsThePitch : Obligations.AnnouncePendingEndCountsThePitch := by
  intro s since run pending
  refine ⟨_, by rw [exec_announcePendingEnd_eq, running_of_running _ run], ?_⟩
  have at_ : s.announcePendingEnd = (s.reach (since + 500)).endAnnouncePending := by
    rw [State.announcePendingEnd, pending]
    rfl
  rw [at_]
  have running : (s.reach (since + 500)).lbi.announcePending.isSome = true := by simp [pending]
  have grows := (s.reach (since + 500)).endAnnouncePending_grows
  have ends : (s.reach (since + 500)).endAnnouncePending.lbi.announcePending = none := grows.frame.2.2.2.2.1
  refine ⟨ends, by simp, ?_, ?_, ?_, ?_, by simp, by simp, by simp, by simp, by simp, by simp, ?_⟩
  iterate 4
    rw [State.endAnnouncePending_tracker]
    cases awaited : s.ptr.announceExpected <;> simp [State.unannouncedPitch_ptr, awaited, pending]
  cases awaited : s.ptr.announceExpected with
  | false =>
    rw [State.endAnnouncePending_of_heard running (by simpa using awaited)]
    simp [State.stopPending]
  | true =>
    rw [State.endAnnouncePending_of_awaited running (by simpa using awaited)]
    split
    · rename_i eighth
      rw [State.unannouncedPitch_of_eighth (by simpa [State.stopPending] using eighth.2.1)
        (by simpa [State.stopPending] using eighth.2.2)]
      exact ⟨by simp [State.countPitch], State.mem_standing_raise1 _ _ _⟩
    · rename_i other
      rw [State.unannouncedPitch_of_other (by simpa [State.stopPending] using other)]
      simp [State.countPitch, State.stopPending]

/-! ## A good ANNOUNCE -/

theorem State.resync_ptr (s : State) (t : Tag) : (s.resync t).ptr = { s.ptr with p := some t } := by
  cases p : s.ptr.p with
  | none => rw [State.resync_of_unsynced _ p]; rfl
  | some p' =>
    by_cases slip : p' = t
    · rw [State.resync_of_same (p.trans (congrArg some slip)), ← slip, ← p]
    · rw [State.resync_of_slip p slip]
      simp

@[simp] theorem State.line_frame (s : State) (st : Stem) :
    (s.line st).rct = s.rct ∧ (s.line st).clu = s.clu ∧ (s.line st).rol = s.rol ∧ (s.line st).drc = s.drc ∧
      (s.line st).crm = s.crm ∧ (s.line st).mdc = s.mdc ∧ (s.line st).inputs = s.inputs ∧
      (s.line st).now = s.now ∧ (s.line st).inReset = s.inReset ∧ (s.line st).pending = s.pending := by
  unfold State.line
  split <;> simp

/-- The judgement of R7 and R9, spelt out. -/
theorem State.judgedNew_iff (s : State) (t : Tag) :
    s.judgedNew t = true ↔ s.ptr.p = none ∨ s.ptr.h.all (fun h => tagBefore h t) = true := by
  unfold State.judgedNew
  cases s.ptr.p <;> cases s.ptr.h <;> simp

theorem State.line_ptr (s : State) (st : Stem) :
    (s.line st).ptr = { s.ptr with
      p := some st.tag, h := if s.judgedNew st.tag = true then some st.tag else s.ptr.h } := by
  cases new : s.judgedNew st.tag <;> simp [State.line, new, State.resync_ptr]

theorem State.announced_ptr (s : State) :
    s.announced.ptr = { s.ptr with announceExpected := false, unannounced := 0, gaugeSilent := false } := by
  unfold State.announced
  dsimp only
  split <;> simp

/-- A good ANNOUNCE at the tracker (R7 to R9, R11, R12). -/
theorem State.trackAnnounce_ptr (s : State) (st : Stem) :
    (s.trackAnnounce st).ptr = { s.ptr with
      p := some st.tag, h := if s.judgedNew st.tag = true then some st.tag else s.ptr.h
      announceExpected := false, unannounced := 0, gaugeSilent := false } := by
  rw [State.trackAnnounce_eq]
  cases new : s.judgedNew st.tag <;> simp [State.announced_ptr, State.line_ptr, new]

theorem State.resync_grows (s : State) (t : Tag) : s.lbi.NoticesGrow (s.resync t).lbi := by
  unfold State.resync
  split
  · exact .refl _
  · split
    · exact .refl _
    · exact State.raise1_grows (s.setPtr _) _ _

theorem State.line_grows (s : State) (st : Stem) : s.lbi.NoticesGrow (s.line st).lbi := by
  unfold State.line
  split <;> exact s.resync_grows st.tag

theorem State.announced_grows (s : State) : s.lbi.NoticesGrow s.announced.lbi := by
  unfold State.announced
  dsimp only
  split
  · exact State.endCondition_grows (s.setPtr _) _
  · exact .refl _

theorem State.openRound_lbi (s : State) (kind : RoundKind) (st : Stem) :
    (s.openRound kind st).lbi = s.stopClaimFrame.lbi := by
  unfold State.openRound
  dsimp only
  split <;> simp

/-- At a receiver that drives nothing a good ANNOUNCE only makes notices grow. -/
theorem State.trackAnnounce_grows (st : Stem) (silent : s.lbi.tx = none) :
    s.lbi.NoticesGrow (s.trackAnnounce st).lbi := by
  have grows := (s.line_grows st).trans (s.line st).announced_grows
  rw [State.trackAnnounce_eq]
  split
  · have driving : (s.line st).announced.drivingClaim = false := by
      simp [State.drivingClaim, grows.frame.2.2.1, silent]
    rw [State.openRound_lbi, State.stopClaimFrame_lbi, driving]
    exact grows
  · exact grows

/-- The alert records and notices that a good ANNOUNCE leaves, without a slip or a silence to end. -/
theorem State.trackAnnounce_quiet (st : Stem) (silent : s.lbi.tx = none)
    (steady : s.ptr.p.all (· == st.tag) = true) (heard : s.ptr.gaugeSilent = false) :
    (s.trackAnnounce st).alc = s.alc ∧ (s.trackAnnounce st).lbi = s.lbi := by
  have resync : (s.resync st.tag).alc = s.alc ∧ (s.resync st.tag).lbi = s.lbi := by
    cases p : s.ptr.p with
    | none => simp [State.resync_of_unsynced _ p]
    | some p' =>
      have same : p' = st.tag := by simpa [p] using steady
      simp [State.resync_of_same (p.trans (congrArg some same))]
  have line : (s.line st).alc = s.alc ∧ (s.line st).lbi = s.lbi := by
    unfold State.line
    split <;> simpa using resync
  have announced : (s.line st).announced.alc = s.alc ∧ (s.line st).announced.lbi = s.lbi := by
    have heard' : (s.line st).ptr.gaugeSilent = false := by simpa [State.line_ptr] using heard
    simpa [State.announced, heard'] using line
  rw [State.trackAnnounce_eq]
  split
  · have driving : (s.line st).announced.drivingClaim = false := by
      simp [State.drivingClaim, announced.2, silent]
    simp [State.openRound_lbi, State.stopClaimFrame_lbi, driving, announced]
  · exact announced

/-- PITCH-SLIP stands after a slip, with the old P and the new one (R8). -/
theorem State.trackAnnounce_slip {p : Tag} (st : Stem) (synced : s.ptr.p = some p) (slip : p ≠ st.tag) :
    ⟨.pitchSlip, p, st.tag⟩ ∈ (s.trackAnnounce st).standing := by
  have resync : ⟨.pitchSlip, p, st.tag⟩ ∈ (s.resync st.tag).standing := by
    rw [State.resync_of_slip synced slip]
    exact State.mem_standing_raise1 _ _ _
  have line : ⟨.pitchSlip, p, st.tag⟩ ∈ (s.line st).standing := by
    unfold State.line
    split
    · simpa using resync
    · exact resync
  have announced : ⟨.pitchSlip, p, st.tag⟩ ∈ (s.line st).announced.standing := by
    unfold State.announced
    dsimp only
    split
    · rw [State.mem_standing_endCondition (by simp) (by simp)]
      simpa using line
    · simpa using line
  rw [State.trackAnnounce_eq]
  split
  · rwa [State.standing_congr (s := (s.line st).announced) (by simp)]
  · exact announced

/-- The end of a good ANNOUNCE, once the tracker has taken it (R140, R143). -/
theorem State.announce_eq (st : Stem) :
    s.announce st = (s.frameEnd.trackAnnounce st).stopPending.openClaimReserve := by
  rw [State.announce, State.endAnnouncePending_heard (by rw [State.trackAnnounce_ptr])]

@[simp] theorem State.stopPending_frame (s : State) :
    s.stopPending.ptr = s.ptr ∧ s.stopPending.rct = s.rct ∧ s.stopPending.clu = s.clu ∧
      s.stopPending.rol = s.rol ∧ s.stopPending.drc = s.drc ∧ s.stopPending.crm = s.crm ∧
      s.stopPending.alc = s.alc ∧ s.stopPending.mdc = s.mdc ∧ s.stopPending.inputs = s.inputs ∧
      s.stopPending.now = s.now ∧ s.stopPending.inReset = s.inReset ∧ s.stopPending.pending = s.pending := by
  simp [State.stopPending]

theorem State.frameEnd_lbi : s.frameEnd.lbi = s.lbi.afterFrame := by
  rw [State.frameEnd_eq]
  rfl

theorem State.frameEnd_clu : s.frameEnd.clu = s.clu.afterFrame := by
  rw [State.frameEnd_eq]
  rfl

/-- Settles O17. -/
theorem announceBringsTheTrackerIntoLine : Obligations.AnnounceBringsTheTrackerIntoLine := by
  intro s st run receiving
  refine ⟨_, by rw [exec_announce_eq, running_of_receiving _ run receiving], ?_⟩
  have silent : s.frameEnd.lbi.tx = none := s.frameEnd_tx.trans (State.tx_of_receiving receiving).2
  have frame := (State.trackAnnounce_grows st silent).frame
  obtain ⟨receiver, openRun, -, -, -, -, reclaim⟩ := frame
  simp only [State.frameEnd_lbi, LineBus.afterFrame] at receiver openRun reclaim
  have ptr : (s.announce st).ptr = (s.frameEnd.trackAnnounce st).ptr := by simp [State.announce_eq]
  have new : (if s.frameEnd.judgedNew st.tag = true then some st.tag else s.frameEnd.ptr.h) =
      if s.ptr.p = none ∨ s.ptr.h.all (fun h => tagBefore h st.tag) = true then some st.tag
      else s.ptr.h := by simp [State.judgedNew_iff]
  rw [ptr, State.trackAnnounce_ptr, new, State.announce_eq]
  refine ⟨rfl, rfl, rfl, rfl, rfl, fun p synced slip => ?_, by simp [State.openClaimReserve, State.stopPending],
    by simp [State.openClaimReserve], by simpa [State.openClaimReserve, State.stopPending] using reclaim,
    by simpa [State.openClaimReserve, State.stopPending] using receiver,
    by simpa [State.openClaimReserve, State.stopPending] using openRun, by simp, by simp, by simp, by simp,
    by simp, by simp, by simp, by simp, by simp, by simp, fun steady heard => ?_⟩
  · have slipped := State.trackAnnounce_slip (s := s.frameEnd) st (by simpa using synced) slip
    rwa [State.standing_congr (s := s.frameEnd.trackAnnounce st) (by simp)]
  · obtain ⟨alc, lbi⟩ := State.trackAnnounce_quiet (s := s.frameEnd) st silent (by simpa using steady)
      (by simpa using heard)
    simp [State.openClaimReserve, State.stopPending, alc, lbi, State.frameEnd_lbi, LineBus.afterFrame]

/-! ## The CLAIM round it opens -/

/-- The candidates read the number, the mode, the recipes and the cradles. -/
theorem State.choose_congr {s t : State} (kind : RoundKind) (st : Stem) (mdc : t.mdc = s.mdc)
    (crm : t.crm = s.crm) (rct : t.rct = s.rct) : t.choose kind st = s.choose kind st := by
  cases s
  cases t
  cases mdc
  cases crm
  cases rct
  rfl

theorem Mode.bids_iff (m : Mode) : m.bids = true ↔ m = .active ∨ m = .draining := by
  cases m <;> decide

theorem State.mayBid_iff (s : State) (st : Stem) :
    s.mayBid st = true ↔ (s.mdc.mode = .active ∨ s.mdc.mode = .draining) ∧ s.ptr.p.isSome = true ∧
      1 ≤ st.length.val ∧ st.double = false ∧ s.drc.claims.length < 32 := by
  simp only [State.mayBid, Bool.and_eq_true, Mode.bids_iff, decide_eq_true_eq, Bool.not_eq_true', and_assoc]
  exact Iff.rfl

theorem State.hasClaim_eq_false_iff (s : State) (t : Tag) :
    s.hasClaim t = false ↔ ∀ e ∈ s.drc.claims, e.stem.tag ≠ t := by
  simp [State.hasClaim]

/-- The Claim Unit at an opening: the candidate of an eligible station, or at rest (R31, R32, R52). -/
theorem State.openRound_of_eligible (s : State) (kind : RoundKind) (st : Stem) :
    (s.openRound kind st).clu =
      if s.eligible kind st = true then
        match s.choose kind st with
        | some c => { round := .bidding, chosen := some c, gaveUp := false }
        | none => .atRest
      else .atRest := by
  have choose : s.stopClaimFrame.roundIdle.choose kind st = s.choose kind st :=
    State.choose_congr kind st (by simp) (by simp) (by simp)
  have eligible : s.stopClaimFrame.roundIdle.eligible kind st = s.eligible kind st := by
    simp only [State.eligible, State.mayBid, State.hasClaim, State.reclaimable, State.posTest, State.posOf,
      State.roundIdle_frame, State.stopClaimFrame_frame]
  rw [State.openRound_clu, choose, eligible]
  split <;> rename_i k <;> split at k <;> simp_all

theorem State.announced_clu (s : State) : s.announced.clu = s.clu := by
  unfold State.announced
  dsimp only
  split <;> simp

/-- Settles O18. -/
theorem announceOpensAClaimRound : Obligations.AnnounceOpensAClaimRound := by
  intro s st run receiving
  refine ⟨_, by rw [exec_announce_eq, running_of_receiving _ run receiving], ?_⟩
  have clu : (s.announce st).clu = (s.frameEnd.trackAnnounce st).clu := by simp [State.announce_eq]
  have new : s.frameEnd.judgedNew st.tag = true ↔
      s.ptr.p = none ∨ s.ptr.h.all (fun h => tagBefore h st.tag) = true := by simp [State.judgedNew_iff]
  rw [clu, State.trackAnnounce_eq]
  by_cases judged : s.ptr.p = none ∨ s.ptr.h.all (fun h => tagBefore h st.tag) = true
  · rw [if_pos (new.mpr judged), if_pos judged, State.openRound_of_eligible]
    have choose : (s.frameEnd.line st).announced.choose .claim st = s.choose .claim st :=
      State.choose_congr _ st (by simp) (by simp) (by simp)
    have eligible : (s.frameEnd.line st).announced.eligible .claim st = true ↔
        (s.mdc.mode = .active ∨ s.mdc.mode = .draining) ∧ 1 ≤ st.length.val ∧ st.double = false ∧
          s.drc.claims.length < 32 ∧ ∀ e ∈ s.drc.claims, e.stem.tag ≠ st.tag := by
      have drc : (s.frameEnd.line st).announced.drc = s.drc := by simp
      have mdc : (s.frameEnd.line st).announced.mdc = s.mdc := by simp
      simp only [State.eligible, Bool.and_eq_true, State.mayBid_iff, Bool.not_eq_true', drc, mdc,
        State.hasClaim_eq_false_iff, State.announced_ptr, State.line_ptr, Option.isSome_some, true_and, and_assoc]
    rw [choose]
    by_cases may : (s.mdc.mode = .active ∨ s.mdc.mode = .draining) ∧ 1 ≤ st.length.val ∧ st.double = false ∧
        s.drc.claims.length < 32 ∧ ∀ e ∈ s.drc.claims, e.stem.tag ≠ st.tag
    · rw [if_pos (eligible.mpr may), if_pos may] <;> rfl
    · rw [if_neg (mt eligible.mp may), if_neg may]
  · rw [if_neg (mt new.mp judged), if_neg judged, State.announced_clu, (s.frameEnd.line_frame st).2.1, State.frameEnd_clu]

/-! ## Frames that fail -/

/-- The bus idle at the end of a frame cut short (R139, R141). -/
def State.cutToIdle (s : State) : State :=
  (s.setLbi { s.lbi.afterFrame with openRun := 11 }).setClu s.clu.afterIdle

@[simp] theorem State.cutToIdle_frame :
    s.cutToIdle.ptr = s.ptr ∧ s.cutToIdle.rct = s.rct ∧ s.cutToIdle.clu = s.clu.afterIdle ∧
      s.cutToIdle.rol = s.rol ∧ s.cutToIdle.drc = s.drc ∧ s.cutToIdle.crm = s.crm ∧
      s.cutToIdle.mdc = s.mdc := ⟨rfl, rfl, rfl, rfl, rfl, rfl, rfl⟩

theorem ClaimUnit.afterFrame_afterIdle (u : ClaimUnit) : u.afterFrame.afterIdle = u.afterIdle := by
  unfold ClaimUnit.afterFrame ClaimUnit.afterIdle
  by_cases lost : u.round = .lost <;> by_cases arbitration : u.gaveUp = false <;>
    simp [lost, arbitration, ClaimUnit.atRest]

/-- A frame cut short (R139, R140). -/
theorem State.cutShort_eq (kind : FrameKind) :
    s.cutShort kind = if kind = .announce then s.cutToIdle.endAnnouncePending else s.cutToIdle := by
  have cut : (s.frameEnd.setLbi { s.frameEnd.lbi with openRun := Config.idleRun }).endLost = s.cutToIdle := by
    rw [State.endLost_eq, State.frameEnd_eq, State.cutToIdle, ← s.clu.afterFrame_afterIdle]
    rfl
  rw [← cut]
  rfl

/-- Settles O22. -/
theorem framesThatFail : Obligations.FramesThatFail := by
  intro s kind code run receiving
  refine ⟨?_, ⟨_, by rw [exec_badCheckFrame_eq, running_of_receiving _ run receiving], ?_⟩,
    ⟨_, by rw [exec_frameCutShort_eq, running_of_receiving _ run receiving], ?_⟩, fun unknown => ?_⟩
  · rw [exec_badCheckFrame_eq, running_of_receiving _ run receiving, State.frameEnd_eq]
    rfl
  · obtain ⟨receiver, openRun, -, -, pending, -, reclaim⟩ := s.frameEnd.endAnnouncePending_grows.frame
    simp only [State.frameEnd_lbi, LineBus.afterFrame] at receiver openRun pending reclaim
    have eq : s.frameEnd.badFrame .announce = s.frameEnd.endAnnouncePending.openClaimReserve := rfl
    rw [eq]
    simp only [State.openClaimReserve, State.setLbi_lbi, receiver, openRun, pending, reclaim, true_and]
    refine ⟨by simp, by simp [State.frameEnd_clu], ?_, ?_, ?_, by simp⟩
    all_goals
      rw [State.setLbi_ptr, State.endAnnouncePending_tracker, State.frameEnd_lbi]
      by_cases awaited : s.lbi.announcePending.isSome = true ∧ s.ptr.announceExpected = true <;>
        simp [LineBus.afterFrame, awaited, State.unannouncedPitch_ptr]
  · rw [State.cutShort_eq]
    split
    · obtain ⟨receiver, openRun, -, -, pending, claim, reclaim⟩ := s.cutToIdle.endAnnouncePending_grows.frame
      exact ⟨receiver, openRun, claim, reclaim, by simp, pending, by simp [State.endAnnouncePending_ptr],
        by simp [State.endAnnouncePending_ptr], by simp⟩
    · exact ⟨rfl, rfl, rfl, rfl, by simp, rfl, by simp⟩
  · rw [exec_unknownKindFrame_eq (by simpa [unknownCode] using unknown), running_of_receiving _ run receiving]
    rfl

end Sys2Proof.Machine
end

section
/-! The candidates of a round (R33 to R40), the Re-offer List (R103, R104) and the RECLAIM round a REOFFER opens (R51,
R52, R109). -/

namespace Sys2Proof.Machine

variable {s : State}

/-! ## Candidates -/

/-- What a candidate says of its cradle and its recipe (R33 to R35). -/
theorem State.candidate_spec {n : StationNo} {kind : RoundKind} {st : Stem} {d : Cradle} {c : Candidate}
    (h : s.candidate n kind st d = some c) :
    c.cradle = d ∧ c.kind = kind ∧ c.stem = st ∧ s.candidateRecipe d st = some (c.recipe, c.opening) ∧
      ∃ x, s.rct[c.recipe]? = some x ∧ x.stemTest st = true ∧
        x.fits (widen (if c.opening then none else (s.cradle d).envelope) st.length.val) = true := by
  unfold State.candidate at h
  split at h
  · exact absurd h (by simp)
  · rename_i i opening found
    split at h
    · exact absurd h (by simp)
    · rename_i x recipe
      simp only [Option.ite_none_right_eq_some, Bool.and_eq_true, Option.some.injEq] at h
      obtain ⟨⟨stem, fits⟩, rfl⟩ := h
      exact ⟨rfl, rfl, rfl, found, x, recipe, stem, fits⟩

/-- The recipe of a candidate: the opening one for an EMPTY cradle, the bound one of a FILLING (R33, R34). -/
theorem State.candidateRecipe_spec {st : Stem} {d : Cradle} {i : Nat} {opening : Bool}
    (h : s.candidateRecipe d st = some (i, opening)) :
    (opening = true → s.mdc.mode = .active ∧ (s.cradle d).state = .empty ∧
      openingRecipe s.rct st = some i) ∧
    (opening = false → (s.cradle d).state = .filling ∧ (s.cradle d).recipe = some i) := by
  unfold State.candidateRecipe at h
  cases state : (s.cradle d).state with
  | filling =>
    simp only [state, Option.map_eq_some_iff, Prod.mk.injEq] at h
    obtain ⟨j, recipe, rfl, rfl⟩ := h
    simp [recipe]
  | empty =>
    simp only [state, Option.ite_none_right_eq_some, Option.map_eq_some_iff, Prod.mk.injEq] at h
    obtain ⟨⟨mode, -⟩, j, recipe, rfl, rfl⟩ := h
    simp [mode, recipe]
  | _ => simp [state] at h

/-- The opening recipe is the lowest index the stem matches (R23). -/
theorem openingRecipe_spec {rs : List Recipe} {st : Stem} {i : Nat} (h : openingRecipe rs st = some i) :
    (∀ x, rs[i]? = some x → x.accepts st = true) ∧
      ∀ j y, j < i → rs[j]? = some y → y.accepts st = false := by
  obtain ⟨bound, accepts, lowest⟩ := List.findIdx?_eq_some_iff_getElem.mp h
  refine ⟨fun x at_ => ?_, fun j y less at_ => ?_⟩
  · obtain ⟨-, rfl⟩ := List.getElem?_eq_some_iff.mp at_
    exact accepts
  · obtain ⟨-, rfl⟩ := List.getElem?_eq_some_iff.mp at_
    simpa using lowest j less

/-- The choice is a candidate with the lower bid, and A's at equal bids (R40). -/
theorem State.choose_spec {kind : RoundKind} {st : Stem} {c : Candidate} (h : s.choose kind st = some c) :
    ∃ n, s.number = some n ∧ s.candidate n kind st c.cradle = some c ∧
      (∀ y c', s.candidate n kind st y = some c' → c.bid ≤ c'.bid) ∧
      (c.cradle = .b → ∀ c', s.candidate n kind st .a = some c' → c.bid < c'.bid) := by
  unfold State.choose at h
  cases number : s.number with
  | none => simp [number] at h
  | some n =>
    refine ⟨n, rfl, ?_⟩
    simp only [number] at h
    have two : ∀ P : Cradle → Prop, P .a → P .b → ∀ y, P y := fun P a b y => by cases y <;> assumption
    cases a : s.candidate n kind st .a with
    | none =>
      simp only [a] at h
      obtain ⟨cradle, -⟩ := State.candidate_spec h
      exact ⟨cradle ▸ h, two _ (by simp [a]) (by simp [h]), by simp⟩
    | some x =>
      obtain ⟨xa, -⟩ := State.candidate_spec a
      cases b : s.candidate n kind st .b with
      | none =>
        simp only [a, b, Option.some.injEq] at h
        subst h
        exact ⟨xa ▸ a, two _ (by simp [a]) (by simp [b]), by simp [xa]⟩
      | some y =>
        obtain ⟨yb, -⟩ := State.candidate_spec b
        simp only [a, b] at h
        split at h <;> rename_i le <;> injection h with h <;> subst h
        · exact ⟨xa ▸ a, two _ (by simp [a]) (by simpa [b] using le), by simp [xa]⟩
        · have less : y.bid < x.bid := Nat.lt_of_not_le le
          exact ⟨yb ▸ b, two _ (by simpa [a] using less.le) (by simp [b]), by simpa using fun _ => less⟩

/-- Settles O33. -/
theorem chosenCandidateBidsLowest : Obligations.ChosenCandidateBidsLowest := by
  intro s kind st c chosen
  obtain ⟨n, number, candidate, lowest, tie⟩ := State.choose_spec chosen
  obtain ⟨-, sameKind, sameStem, recipe, x, at_, stem, fits⟩ := State.candidate_spec candidate
  obtain ⟨opens, fills⟩ := State.candidateRecipe_spec recipe
  refine ⟨n, x, number, at_, stem, candidate, sameKind, sameStem, lowest, tie, fun opening => ?_,
    fun filling => ?_⟩
  · obtain ⟨mode, state, first⟩ := opens opening
    obtain ⟨accepts, below⟩ := openingRecipe_spec first
    have bind : x.canBind = true := by
      have := accepts x at_
      simp only [Recipe.accepts, Bool.and_eq_true] at this
      exact this.2
    exact ⟨mode, state, bind, below⟩
  · obtain ⟨state, bound⟩ := fills filling
    simp only [filling, Bool.false_eq_true, if_false, Recipe.fits, Bool.or_eq_true, beq_iff_eq,
      decide_eq_true_eq] at fits
    exact ⟨state, bound, fits⟩

/-! ## The Re-offer List -/

theorem State.expired_iff {f : Profile} (profile : s.mdc.profile = some f) (t : Tag) :
    s.expired t = true ↔ ∃ p ∈ s.ptr.p, f.span < pos p t + 2 := by
  cases p : s.ptr.p <;> simp [State.expired, State.posTest, State.posOf, profile, p]

theorem State.hasReoffer_iff (s : State) (t : Tag) :
    s.hasReoffer t = true ↔ ∃ e ∈ s.rol.entries, e.tag = t := by simp [State.hasReoffer]

/-- Settles O34. -/
theorem reofferListTakesOrDiscards : Obligations.ReofferListTakesOrDiscards := by
  intro s st
  refine ⟨fun none_ => if_pos (by simp [State.policy, none_]), fun f profile => ?_⟩
  have discards : (!s.policy (·.reoffer) || s.expired st.tag || s.hasReoffer st.tag ||
      decide (Config.reofferMax ≤ s.rol.entries.length)) = true ↔
      f.reoffer = false ∨ (∃ p ∈ s.ptr.p, f.span < pos p st.tag + 2) ∨
        (∃ e ∈ s.rol.entries, e.tag = st.tag) ∨ 32 ≤ s.rol.entries.length := by
    simp only [Bool.or_eq_true, State.expired_iff profile, State.hasReoffer_iff, decide_eq_true_eq, or_assoc]
    refine or_congr ?_ Iff.rfl
    simp [State.policy, profile]
  unfold State.reoffer
  by_cases h : f.reoffer = false ∨ (∃ p ∈ s.ptr.p, f.span < pos p st.tag + 2) ∨
      (∃ e ∈ s.rol.entries, e.tag = st.tag) ∨ 32 ≤ s.rol.entries.length
  · rw [if_pos (discards.mpr h), if_pos h]
  · rw [if_neg (mt discards.mp h), if_neg h]

/-! ## Insertion in tag order -/

/-- Within half the tag range above a base, tag order is the order of the offsets (R2). -/
theorem tagBefore_iff_offset {base a b : Tag} (ha : (a - base).toNat < 2048) (hb : (b - base).toNat < 2048) :
    tagBefore a b = true ↔ (a - base).toNat < (b - base).toNat := by
  simp only [tagBefore, Bool.and_eq_true, decide_eq_true_eq, BitVec.toNat_sub] at *
  omega

theorem offset_ne {base a b : Tag} (ne : a ≠ b) : (a - base).toNat ≠ (b - base).toNat := fun same =>
  ne (by simpa using congrArg (· + base) (BitVec.eq_of_toNat_eq same))

theorem insertByTag_perm {α : Type} (tagOf : α → Tag) (e : α) (l : List α) :
    (insertByTag tagOf e l).Perm (e :: l) := by
  induction l with
  | nil => exact .refl _
  | cons x xs ih =>
    unfold insertByTag
    split
    · exact (ih.cons x).trans (.swap e x xs)
    · exact .refl _

/-- Among entries within half the tag range, insertion keeps tag order (R47, R82, R104). -/
theorem insertByTag_pairwise {α : Type} (tagOf : α → Tag) (base : Tag) (e : α) (l : List α)
    (near : ∀ x ∈ e :: l, (tagOf x - base).toNat < 2048) (new : ∀ x ∈ l, tagOf x ≠ tagOf e)
    (sorted : l.Pairwise fun x y => tagBefore (tagOf x) (tagOf y) = true) :
    (insertByTag tagOf e l).Pairwise fun x y => tagBefore (tagOf x) (tagOf y) = true := by
  induction l with
  | nil => simp [insertByTag]
  | cons x xs ih =>
    obtain ⟨first, rest⟩ := List.pairwise_cons.mp sorted
    have nearE := near e (by simp)
    have nearX := near x (by simp)
    by_cases some_ : ∃ y ∈ x :: xs, tagBefore (tagOf y) (tagOf e) = true
    · rw [insertByTag_of_some_before _ _ _ _ some_]
      refine List.pairwise_cons.mpr ⟨fun y m => ?_, ih (fun y m => near y ?_) (fun y m =>
        new y (List.mem_cons_of_mem _ m)) rest⟩
      rcases (mem_insertByTag tagOf e y xs).mp m with rfl | m
      · obtain ⟨z, mz, before⟩ := some_
        rcases List.mem_cons.mp mz with rfl | mz
        · exact before
        · have nearZ := near z (by simp [mz])
          have ahead := (tagBefore_iff_offset nearX nearZ).mp (first z mz)
          have behind := (tagBefore_iff_offset nearZ nearE).mp before
          exact (tagBefore_iff_offset nearX nearE).mpr (ahead.trans behind)
      · exact first y m
      · rcases List.mem_cons.mp m with rfl | m
        · exact List.mem_cons_self
        · exact List.mem_cons_of_mem _ (List.mem_cons_of_mem _ m)
    · have none_ : ∀ y ∈ x :: xs, tagBefore (tagOf y) (tagOf e) = false := by simpa using some_
      rw [insertByTag_of_none_before _ _ _ none_]
      refine List.pairwise_cons.mpr ⟨fun y m => ?_, sorted⟩
      have nearY := near y (List.mem_cons_of_mem _ m)
      have not_ := mt (tagBefore_iff_offset nearY nearE).mpr (by simp [none_ y m])
      have ne := offset_ne (base := base) (new y m)
      exact (tagBefore_iff_offset nearE nearY).mpr (by omega)

/-- Where insertion goes: behind every entry before the new one, and no further than any place that has both
(R47, R104). -/
theorem insertByTag_place {α : Type} (tagOf : α → Tag) (e : α) (l : List α) :
    ∃ ahead behind, l = ahead ++ behind ∧ insertByTag tagOf e l = ahead ++ e :: behind ∧
      (∀ x ∈ behind, tagBefore (tagOf x) (tagOf e) = false) ∧
      ∀ ahead' behind', l = ahead' ++ behind' →
        (∀ x ∈ behind', tagBefore (tagOf x) (tagOf e) = false) → ahead <+: ahead' := by
  induction l with
  | nil => exact ⟨[], [], rfl, rfl, by simp, fun _ _ _ _ => List.nil_prefix⟩
  | cons x xs ih =>
    by_cases some_ : ∃ y ∈ x :: xs, tagBefore (tagOf y) (tagOf e) = true
    · obtain ⟨ahead, behind, rfl, insert, last, furthest⟩ := ih
      refine ⟨x :: ahead, behind, rfl, ?_, last, fun ahead' behind' split_ later => ?_⟩
      · rw [insertByTag_of_some_before _ _ _ _ some_, insert]
        rfl
      · cases ahead' with
        | nil =>
          obtain ⟨y, m, before⟩ := some_
          have m' : y ∈ behind' := by rwa [split_] at m
          exact absurd before (by simp [later y m'])
        | cons z ahead' =>
          injection split_ with same rest
          rw [same]
          exact List.prefix_cons_inj z |>.mpr (furthest ahead' behind' rest later)
    · have none_ : ∀ y ∈ x :: xs, tagBefore (tagOf y) (tagOf e) = false := by simpa using some_
      exact ⟨[], x :: xs, rfl, insertByTag_of_none_before _ _ _ none_, none_, fun _ _ _ _ => List.nil_prefix⟩

/-- Settles O35. -/
theorem insertionKeepsTagOrder : Obligations.InsertionKeepsTagOrder := by
  intro α tagOf base e l
  refine ⟨fun near new sorted => ⟨insertByTag_pairwise tagOf base e l near new sorted,
    insertByTag_perm tagOf e l⟩, ?_⟩
  obtain ⟨ahead, behind, whole, insert, last, furthest⟩ := insertByTag_place tagOf e l
  exact ⟨ahead, behind, whole, insert, last, fun ahead' behind' split_ earlier later x m =>
    earlier x ((furthest ahead' behind' split_ later).subset m)⟩

/-! ## The RECLAIM round of a REOFFER -/

/-- With no claim frame driven, an opening writes the Claim Unit alone (R31). -/
theorem State.openRound_eq (kind : RoundKind) (st : Stem) (silent : s.drivingClaim = false) :
    s.openRound kind st = s.setClu (s.openRound kind st).clu := by
  have stop : s.stopClaimFrame = s := by simp [State.stopClaimFrame, silent]
  unfold State.openRound
  rw [stop]
  dsimp only
  split <;> rfl

theorem State.hasClaim_iff (s : State) (t : Tag) :
    s.hasClaim t = true ↔ ∃ e ∈ s.drc.claims, e.stem.tag = t := by simp [State.hasClaim]

theorem State.reclaimable_iff (s : State) (t : Tag) :
    s.reclaimable t = true ↔ ∃ p ∈ s.ptr.p, ∃ f ∈ s.mdc.profile, pos p t + 2 ≤ f.d := by
  cases p : s.ptr.p <;> cases f : s.mdc.profile <;> simp [State.reclaimable, State.posTest, State.posOf, p, f]

/-- A station that may take a RECLAIM (R52). -/
theorem State.eligible_reclaim_iff (s : State) (st : Stem) :
    s.eligible .reclaim st = true ↔ (s.mdc.mode = .active ∨ s.mdc.mode = .draining) ∧
      (∃ p ∈ s.ptr.p, ∃ f ∈ s.mdc.profile, pos p st.tag + 2 ≤ f.d) ∧ 1 ≤ st.length.val ∧
      st.double = false ∧ s.drc.claims.length < 32 := by
  simp only [State.eligible, Bool.and_eq_true, State.mayBid_iff, State.reclaimable_iff]
  constructor
  · rintro ⟨⟨mode, -, long, double, room⟩, short⟩
    exact ⟨mode, short, long, double, room⟩
  · rintro ⟨mode, ⟨p, synced, short⟩, long, double, room⟩
    have synced : s.ptr.p = some p := synced
    exact ⟨⟨mode, by simp [synced], long, double, room⟩, p, synced, short⟩

/-- Settles O30. -/
theorem reofferOpensAReclaimRound : Obligations.ReofferOpensAReclaimRound := by
  intro s n st run receiving
  rw [exec_reofferReceived_eq, running_of_receiving _ run receiving]
  refine congrArg _ ?_
  have silent : s.frameEnd.drivingClaim = false := by
    simp [State.drivingClaim, s.frameEnd_tx, (State.tx_of_receiving receiving).2]
  have held : (s.frameEnd.hasClaim st.tag || s.frameEnd.hasReoffer st.tag) = true ↔
      (∃ e ∈ s.drc.claims, e.stem.tag = st.tag) ∨ ∃ e ∈ s.rol.entries, e.tag = st.tag := by
    simp [State.hasClaim_iff, State.hasReoffer_iff]
  have choose : s.frameEnd.choose .reclaim st = s.choose .reclaim st :=
    State.choose_congr _ st (by simp) (by simp) (by simp)
  have eligible : s.frameEnd.eligible .reclaim st = true ↔
      (s.mdc.mode = .active ∨ s.mdc.mode = .draining) ∧
        (∃ p ∈ s.ptr.p, ∃ f ∈ s.mdc.profile, pos p st.tag + 2 ≤ f.d) ∧ 1 ≤ st.length.val ∧
        st.double = false ∧ s.drc.claims.length < 32 := by
    simp [State.eligible_reclaim_iff]
  have write : ∀ u, (s.frameEnd.setClu u).openReclaimReserve =
      (s.setLbi { s.lbi.afterFrame with reclaimReserve := some s.now }).setClu u := by
    intro u
    rw [State.frameEnd_eq]
    rfl
  by_cases mine : (∃ e ∈ s.drc.claims, e.stem.tag = st.tag) ∨ ∃ e ∈ s.rol.entries, e.tag = st.tag
  · rw [State.takeReoffer, if_pos (held.mpr mine), if_pos mine, ← write]
    rfl
  · rw [State.takeReoffer, if_neg (mt held.mp mine), if_neg mine, State.openRound_eq _ _ silent, write,
      State.openRound_of_eligible, choose]
    by_cases may : (s.mdc.mode = .active ∨ s.mdc.mode = .draining) ∧
        (∃ p ∈ s.ptr.p, ∃ f ∈ s.mdc.profile, pos p st.tag + 2 ≤ f.d) ∧ 1 ≤ st.length.val ∧
        st.double = false ∧ s.drc.claims.length < 32
    · rw [if_pos (eligible.mpr may), if_pos may] <;> rfl
    · rw [if_neg (mt eligible.mp may), if_neg may]

end Sys2Proof.Machine
end

section
/-! The frames the station starts on its own account (R105 to R107, R141, R149 to R152) and the query responder (R150,
R173, R174). -/

namespace Sys2Proof.Machine

variable {s : State}

/-! ## REOFFER frames -/

/-- The head of the list is driven (R106). -/
theorem State.startReoffer_of_head {n : StationNo} {st : Stem} {rest : List Stem} (number : s.number = some n)
    (head : s.rol.entries = st :: rest) :
    s.startReoffer = (s.setRol { s.rol with sending := some st.tag }).drive (.reoffer n st) := by
  rw [State.startReoffer, number, head]

theorem State.startNotice_of_empty (empty : s.lbi.notices = []) : s.startNotice = s := by
  cases number : s.number <;> simp [State.startNotice, number, empty]

/-- The expiry check with no entry being sent (R105). -/
theorem State.expire_of_unsent (unsent : s.rol.sending = none) :
    s.expire = s.setRol ⟨s.rol.entries.filter fun e => !s.expired e.tag, none⟩ := by
  simp [State.expire, unsent]

/-- Settles O36. -/
theorem reofferIsSentAndLeaves : Obligations.ReofferIsSentAndLeaves := by
  intro s n st rest run
  refine ⟨fun start number unsent some_ => ?_, fun driven sending => ?_⟩
  · have send : exec .reofferSend s =
        .next (if s.expire.rol.entries.isEmpty then s.expire.startNotice else s.expire.startReoffer) := by
      rw [exec_reofferSend_eq, running_of_running _ run, State.reofferSend, if_pos (by simp [start, some_])]
    have entries : s.expire.rol.entries = s.rol.entries.filter fun e => !s.expired e.tag := by
      rw [State.expire_of_unsent unsent]
      rfl
    refine ⟨fun left => ?_, fun none_ waiting => ?_, fun none_ waiting => ?_⟩
    · rw [send, if_neg (by simp [entries, left]),
        State.startReoffer_of_head (n := n) ((State.number_congr (by simp)).trans number) (entries.trans left),
        State.expire_of_unsent unsent, left]
      rfl
    · rw [send, if_pos (by simp [entries, none_]), exec_noticeSend_eq, running_of_running _ run,
        State.noticeSend, if_pos (by simp [start, entries, none_, waiting])]
    · rw [send, if_pos (by simp [entries, none_]), State.startNotice_of_empty (by simpa using waiting),
        State.expire_of_unsent unsent, none_]
  · rw [exec_reofferSent_eq, running_of_running _ run, State.reofferSent, driven]
    refine congrArg _ ?_
    have left : (s.rol.entries.filter fun e => s.rol.sending != some e.tag) =
        s.rol.entries.filter fun e => e.tag != st.tag :=
      List.filter_congr fun e _ => by simp [sending, bne, Bool.beq_comm (a := st.tag)]
    simp only [State.reofferLeaves]
    rw [left, State.ownFrameEnd_eq]
    rfl

/-! ## Notices -/

/-- The head of the notice queue is driven (R149, R151, R152). -/
theorem State.startNotice_of_head {n : StationNo} {m : Notice} {rest : List Notice} (number : s.number = some n)
    (head : s.lbi.notices = m :: rest) :
    s.startNotice = s.setLbi { s.lbi with
      tx := some (s.frameOf n m), receiver := .inFrame, openRun := 0
      lostDuring := if (s.frameOf n m).lostField.isSome then false else s.lbi.lostDuring
      resend := if m = .alert then false else s.lbi.resend } := by
  unfold State.startNotice
  split
  · rename_i n' m' rest' number' head'
    obtain rfl : n' = n := Option.some.inj (number'.symm.trans number)
    obtain ⟨rfl, rfl⟩ := List.cons.inj (head'.symm.trans head)
    dsimp only
    split <;> split <;> rfl
  · rename_i neither
    exact (neither n m rest number head).elim

/-- Settles O37. -/
theorem noticeSendDrivesTheHead : Obligations.NoticeSendDrivesTheHead := by
  intro s n m rest run start number spent head
  have none_ : s.expire = s.setRol { s.rol with entries := [] } := by
    have gone : (s.rol.entries.filter fun e => !s.expired e.tag || s.rol.sending == some e.tag) = [] :=
      List.filter_eq_nil_iff.mpr fun e mem => by simp [spent e mem]
    rw [State.expire, gone]
  have waiting : s.lbi.notices.isEmpty = false := by simp [head]
  rw [exec_noticeSend_eq, running_of_running _ run, State.noticeSend,
    if_pos (by simp [start, none_, waiting]), none_,
    State.startNotice_of_head (n := n) (rest := rest) (by simpa using number) (by simpa using head)]
  cases m with
  | status topic body => cases body <;> rfl
  | _ => rfl

/-- The frame carries the lost flag set (R152). -/
def Frame.carriesLost (f : Frame) : Bool := f.lostField == some true

theorem Frame.carriesLost_eq (f : Frame) : f.carriesLost = (match f with
    | .alert _ _ lost => lost
    | .status _ _ (.mode _ _ _ _ _ _ _ lost) => lost
    | _ => false) := by
  cases f with
  | status station topic body => cases body <;> simp [Frame.carriesLost, Frame.lostField]
  | _ => simp [Frame.carriesLost, Frame.lostField]

/-- The frame is a JOIN. -/
def Frame.isJoin : Frame → Bool
  | .join _ _ => true
  | _ => false

theorem Frame.isJoin_eq (f : Frame) : f.isJoin = (match f with
    | .join _ _ => true
    | _ => false) := by
  cases f <;> rfl

/-- The flag, the queue and the join timer at the end of a notice frame (R149, R151, R152, R159). -/
theorem State.noticeSent_of_driven {f : Frame} (driven : s.lbi.tx = some f) (notice : f.isNotice = true) :
    s.noticeSent = ((s.ownFrameEnd.clearLost f).noticeLeaves).startJoinTimer f := by
  unfold State.noticeSent
  rw [driven]
  cases f with
  | claim kind tag bid => simp [Frame.isNotice] at notice
  | reoffer station st => simp [Frame.isNotice] at notice
  | _ => rfl

theorem State.clearLost_eq (s : State) (f : Frame) :
    s.clearLost f = s.setLbi { s.lbi with
      lost := if f.carriesLost = true ∧ s.lbi.lostDuring = false then false else s.lbi.lost } := by
  simp only [State.clearLost, Frame.carriesLost, beq_iff_eq]
  split <;> rfl

theorem State.noticeLeaves_eq (s : State) :
    s.noticeLeaves = s.setLbi { s.lbi with
      notices := if s.lbi.resend = true ∧ s.lbi.notices.head? = some .alert then s.lbi.notices
        else s.lbi.notices.tail
      resend := if s.lbi.resend = true ∧ s.lbi.notices.head? = some .alert then false else s.lbi.resend } := by
  unfold State.noticeLeaves
  split <;> rfl

theorem State.startJoinTimer_eq (s : State) (f : Frame) :
    s.startJoinTimer f = s.setMdc { s.mdc with
      joinTimer := if f.isJoin = true ∧ s.mdc.joinTimer = .waiting then .running s.now
        else s.mdc.joinTimer } := by
  cases f with
  | join n j =>
    simp only [State.startJoinTimer, Frame.isJoin, true_and]
    split <;> rfl
  | _ => rfl

/-- Settles O38. -/
theorem noticeSentLeavesTheQueue : Obligations.NoticeSentLeavesTheQueue := by
  intro s f run driven notice again carried isJoin
  rw [exec_noticeSent_eq, running_of_running _ run, State.noticeSent_of_driven driven notice,
    State.startJoinTimer_eq, State.noticeLeaves_eq, State.clearLost_eq, State.ownFrameEnd_eq]
  have join : f.isJoin = isJoin := f.isJoin_eq
  have lost : f.carriesLost = carried := f.carriesLost_eq
  rw [join, lost]
  rfl

/-! ## The query responder -/

/-- A notice discarded at a full queue leaves the queue (R150). -/
theorem State.discardNotice_notices (full : 8 ≤ s.lbi.notices.length) :
    s.discardNotice.lbi.notices = s.lbi.notices := by
  unfold State.discardNotice State.attention State.alertNotice
  dsimp only
  (repeat' split) <;> simp_all [State.putLost, Config.noticesMax]
  omega

/-- NOTICE-LOST stands once a notice has been discarded with the flag clear (R150). -/
theorem State.discardNotice_stands (clear : s.lbi.lost = false) :
    ⟨.noticeLost, 0, s.stamp⟩ ∈ s.discardNotice.standing := by
  rw [State.standing_eq, State.discardNotice_alc, if_neg (by simp [clear])]
  exact AlertController.mem_standing_attend_self _ _

/-- With the flag set, discards write no record (R150). -/
theorem State.joinNotice_alc_of_lost (n : Notice) (lost : s.lbi.lost = true) :
    (s.joinNotice n).alc = s.alc ∧ (s.joinNotice n).lbi.lost = true := by
  by_cases room : s.lbi.notices.length < 8
  · simp [State.joinNotice_of_room n room, lost]
  · rw [State.joinNotice_of_full n (by omega), State.discardNotice_lost, State.discardNotice_alc, if_pos lost]
    simp

theorem State.joinAll_alc_of_lost (l : List Notice) (lost : s.lbi.lost = true) :
    (s.joinAll l).alc = s.alc ∧ (s.joinAll l).lbi.lost = true := by
  induction l generalizing s with
  | nil => exact ⟨rfl, lost⟩
  | cons n l ih =>
    obtain ⟨alc, lost'⟩ := State.joinNotice_alc_of_lost n lost
    obtain ⟨alc', lost''⟩ := ih lost'
    exact ⟨alc'.trans alc, lost''⟩

/-- Notices that join one after another: the queue takes what it has room for (R149, R150, R174). -/
theorem State.joinAll_does (l : List Notice) (room : s.lbi.notices.length ≤ 8) :
    (s.joinAll l).lbi.notices = (s.lbi.notices ++ l).take 8 ∧
      (s.joinAll l).lbi.lost = (s.lbi.lost || decide (8 < (s.lbi.notices ++ l).length)) ∧
      (s.lbi.lost = false → 8 < (s.lbi.notices ++ l).length →
        ⟨.noticeLost, 0, s.stamp⟩ ∈ (s.joinAll l).standing) ∧
      ((s.lbi.notices ++ l).length ≤ 8 → (s.joinAll l).alc = s.alc) := by
  induction l generalizing s with
  | nil =>
    rw [List.append_nil, List.take_of_length_le room]
    exact ⟨rfl, by simp [State.joinAll, room], fun _ more => absurd more (by omega), fun _ => rfl⟩
  | cons n l ih =>
    by_cases less : s.lbi.notices.length < 8
    · have joined := State.joinNotice_of_room n less
      have stamp : (s.joinNotice n).stamp = s.stamp := State.stamp_congr (by simp)
      have := ih (s := s.joinNotice n) (by simp [joined]; omega)
      simpa [State.joinAll, joined] using this
    · have full : 8 ≤ s.lbi.notices.length := by omega
      have eight : s.lbi.notices.length = 8 := by omega
      have lost : (s.joinNotice n).lbi.lost = true := by
        rw [State.joinNotice_of_full n full, State.discardNotice_lost]
      have notices : (s.joinNotice n).lbi.notices = s.lbi.notices := by
        rw [State.joinNotice_of_full n full, State.discardNotice_notices full]
      have more : 8 < (s.lbi.notices ++ n :: l).length := by simp [eight]
      obtain ⟨alc, lost'⟩ := State.joinAll_alc_of_lost l lost
      obtain ⟨queue, -⟩ := ih (s := s.joinNotice n) (by simp [notices, eight])
      refine ⟨?_, ?_, fun clear _ => ?_, fun fits => absurd fits (by omega)⟩
      · rw [State.joinAll, queue, notices, List.take_append_of_le_length full,
          List.take_append_of_le_length full]
      · rw [State.joinAll, lost', decide_eq_true more, Bool.or_true]
      · rw [State.joinAll, State.standing_congr alc, State.joinNotice_of_full n full]
        exact State.discardNotice_stands clear

/-- The parts of an answer, as the topics name them (R173). -/
theorem State.answer_eq (s : State) (topic : Fin 16) :
    s.answer topic =
      if topic.val = 0 then [.mode s.mdc.mode s.level s.ptr.p s.ptr.h s.drc.claims.length
        s.drc.falling.length s.rol.entries.length s.lbi.lost]
      else if topic.val = 1 then s.crm.cradleA.bodies
      else if topic.val = 2 then s.crm.cradleB.bodies
      else if topic.val = 7 then s.alertBodies
      else if topic.val ≤ 6 then [((s.rct[topic.val - 3]?).map Recipe.body).getD .refused]
      else [.refused] := by
  unfold State.answer
  split
  · rename_i zero; simp [zero, State.modeBody]
  · rename_i one; simp [one, State.cradle]
  · rename_i two; simp [two, State.cradle]
  · rename_i seven; simp [seven]
  · rename_i n zero one two seven
    rw [if_neg zero, if_neg one, if_neg two, if_neg seven]
    by_cases low : topic.val ≤ 6
    · have three : 3 ≤ topic.val := by
        have : topic.val ≠ 0 ∧ topic.val ≠ 1 ∧ topic.val ≠ 2 := ⟨zero, one, two⟩
        omega
      rw [if_pos ⟨three, low⟩, if_pos low]
      cases s.rct[topic.val - 3]? <;> rfl
    · rw [if_neg (fun range => low range.2), if_neg low]

/-- Every answer has a part (R173). -/
theorem State.answer_ne_nil (s : State) (topic : Fin 16) : s.answer topic ≠ [] := by
  rw [State.answer_eq]
  (repeat' split) <;> simp [CradleRec.bodies, State.alertBodies]

/-- Settles O39. -/
theorem queryAnswerJoinsTheQueue : Obligations.QueryAnswerJoinsTheQueue := by
  intro s n topic run receiving number answer whole
  refine ⟨_, by rw [exec_query_eq, running_of_receiving _ run receiving], ?_⟩
  have responds : s.frameEnd.queried n topic = s.frameEnd.respond topic :=
    if_pos (State.frameEnd_number.trans number)
  have parts : s.frameEnd.answer topic = answer := by
    rw [State.answer_eq]
    simp [answer, State.frameEnd_lbi, LineBus.afterFrame, State.level_congr (s := s) (t := s.frameEnd),
      State.alertBodies]
  have notices : s.frameEnd.lbi.notices = s.lbi.notices := by rw [State.frameEnd_lbi]; rfl
  have lost : s.frameEnd.lbi.lost = s.lbi.lost := by rw [State.frameEnd_lbi]; rfl
  have stamp : s.frameEnd.stamp = s.ptr.p.getD 0 := by simp [State.stamp]
  have some_ : 1 ≤ (answer.map (Notice.status topic)).length := by
    rw [List.length_map, ← parts]
    exact List.length_pos_iff.mpr (State.answer_ne_nil _ _)
  have long : whole.length = s.lbi.notices.length + (answer.map (Notice.status topic)).length :=
    List.length_append
  rw [responds]
  have frame : (s.frameEnd.respond topic).ptr = s.ptr ∧ (s.frameEnd.respond topic).drc = s.drc ∧
      (s.frameEnd.respond topic).crm = s.crm ∧ (s.frameEnd.respond topic).rct = s.rct ∧
      (s.frameEnd.respond topic).rol = s.rol ∧ (s.frameEnd.respond topic).mdc = s.mdc ∧
      (s.frameEnd.respond topic).clu = s.clu.afterFrame := by simp [State.frameEnd_clu]
  by_cases full : 8 ≤ s.lbi.notices.length
  · have discards : s.frameEnd.respond topic = s.frameEnd.discardNotice :=
      if_pos (by simpa [notices, Config.noticesMax] using full)
    rw [discards] at frame ⊢
    refine ⟨fun room => absurd room (by omega), fun _ => ?_, ?_, fun clear _ => ?_,
      fun fits => absurd fits (by omega), frame⟩
    · rw [State.discardNotice_notices (by rwa [notices]), notices]
    · have more : 8 < whole.length := by omega
      rw [State.discardNotice_lost, decide_eq_true more, Bool.or_true]
    · rw [← stamp]
      exact State.discardNotice_stands (lost.trans clear)
  · have joins : s.frameEnd.respond topic = s.frameEnd.joinAll (answer.map (.status topic)) := by
      rw [← parts]
      exact if_neg (by simpa [notices, Config.noticesMax] using full)
    obtain ⟨queue, flag, stands, records⟩ := State.joinAll_does (s := s.frameEnd)
      (answer.map (Notice.status topic)) (by rw [notices]; omega)
    rw [notices] at queue flag stands records
    rw [lost] at flag stands
    rw [stamp] at stands
    rw [joins] at frame ⊢
    exact ⟨fun _ => queue, fun most => absurd most full, flag, stands,
      fun fits => (records fits).trans (by simp), frame⟩

end Sys2Proof.Machine
end

section
/-! The end of a won frame (R43, R46 to R50, R54): a commit to a FILLING or an EMPTY cradle, or the stem forfeited at
once. -/

namespace Sys2Proof.Machine

variable {s : State}

/-- The end of the frame of a remaining sender, up to the tests at the end of the event (R43, R46 to R49). -/
def State.wonEnd (s : State) (c : Candidate) : State :=
  if s.recheck c then s.ownFrameEnd.commit c else s.ownFrameEnd.reoffer c.stem

theorem State.canTake_congr {s t : State} (c : Candidate) (mdc : t.mdc = s.mdc) (crm : t.crm = s.crm)
    (rct : t.rct = s.rct) : t.canTake c = s.canTake c := by
  simp only [State.canTake, State.cradle_congr _ crm, mdc, rct]

theorem State.notReached_congr {s t : State} (g : Tag) (ptr : t.ptr = s.ptr) (mdc : t.mdc = s.mdc) :
    t.notReached g = s.notReached g := by
  simp only [State.notReached, State.posTest, State.posOf, ptr, mdc]

/-- The frame of a candidate that the station has won ends. -/
theorem exec_sentCommand_of_won {c : Candidate} (run : s.inReset = false) (won : s.clu.round = .won)
    (chosen : s.clu.chosen = some c) (driven : s.lbi.tx = some (.claim c.kind c.stem.tag c.bid)) :
    exec (sentCommand c.kind) s = .next (s.wonEnd c).roundIdle.settle := by
  have driving : s.drivingClaim = true := by simp [State.drivingClaim, driven]
  have recheck : s.ownFrameEnd.recheck c = s.recheck c := by
    simp only [State.recheck, State.ownFrameEnd_frame,
      State.canTake_congr (s := s) (t := s.ownFrameEnd) c (by simp) (by simp) (by simp),
      State.notReached_congr (s := s) (t := s.ownFrameEnd) c.stem.tag (by simp) (by simp)]
  rw [exec_sentCommand_eq, running_of_running _ run, State.claimFrameEnd, chosen]
  refine congrArg _ ?_
  have ends : s.wonFrameEnd c = (s.wonEnd c).roundIdle.settle := by
    simp only [State.wonFrameEnd, State.wonEnd, recheck]
  exact (if_pos ⟨won, rfl, driving⟩).trans ends

theorem State.ownFrameEnd_lbi : s.ownFrameEnd.lbi = { s.lbi.afterFrame with tx := none, mismatches := 0 } := by
  rw [State.ownFrameEnd_eq]
  rfl

/-- Whatever the recheck says, the frame was sent, the round is over, and no mode or tag changes (R43, R148). -/
theorem State.wonEnd_frame (s : State) (c : Candidate) :
    (s.wonEnd c).lbi = { s.lbi.afterFrame with tx := none, mismatches := 0 } ∧ (s.wonEnd c).mdc = s.mdc ∧
      (s.wonEnd c).ptr = s.ptr := by
  unfold State.wonEnd
  split <;> simp [State.ownFrameEnd_lbi]

/-- The tests at the end of the event find the round over and nothing driven. -/
theorem State.wonEnd_settled (s : State) (c : Candidate) :
    (s.wonEnd c).roundIdle.settle.clu = .atRest ∧ (s.wonEnd c).roundIdle.settle.rol = (s.wonEnd c).rol ∧
      ((s.wonEnd c).roundIdle.settle.lbi.tx = none ∧ (s.wonEnd c).roundIdle.settle.lbi.mismatches = 0 ∧
        (s.wonEnd c).roundIdle.settle.lbi.receiver = .waitingStart ∧
        (s.wonEnd c).roundIdle.settle.lbi.claimReserve = none ∧
        (s.wonEnd c).roundIdle.settle.lbi.reclaimReserve = none) ∧
      (s.wonEnd c).roundIdle.settle.ptr.p = s.ptr.p ∧ (s.wonEnd c).roundIdle.settle.ptr.h = s.ptr.h := by
  obtain ⟨lbi, -, ptr⟩ := s.wonEnd_frame c
  have rest : (s.wonEnd c).roundIdle.clu = .atRest := rfl
  have nothing : (s.wonEnd c).roundIdle.wonStems = [] := by simp [State.wonStems, ClaimUnit.atRest]
  obtain ⟨receiver, -, tx, mismatches, -, claim, reclaim⟩ := (s.wonEnd c).roundIdle.settle_lbi.frame
  simp only [State.roundIdle_frame, lbi, LineBus.afterFrame] at receiver tx mismatches claim reclaim
  refine ⟨?_, ?_, ⟨tx.trans (ite_self _), mismatches, receiver, claim, reclaim⟩, ?_, ?_⟩
  · simp [State.settle_clu, State.roundWithoutMode, ClaimUnit.atRest]
  · simp [State.settle_rol, nothing, State.reofferAll]
  · simp [ptr]
  · simp [ptr]

/-- A commit at its own cradle, its recipe and the pending queue (R47, R48). -/
theorem State.commit_cradle (s : State) (c : Candidate) (x : Recipe) (recipe : s.rct[c.recipe]? = some x) :
    (s.commit c).cradle c.cradle = (s.cradle c.cradle).commit c x.n ∧
      (s.commit c).cradle (otherCradle c.cradle) = s.cradle (otherCradle c.cradle) ∧
      (s.commit c).drc = { s.drc with
        claims := insertByTag (·.stem.tag) ⟨c.stem, c.cradle, c.kind⟩ s.drc.claims } ∧
      (s.commit c).rct = if c.opening = true then s.rct.modify c.recipe Recipe.bound else s.rct := by
  unfold State.commit
  rw [recipe]
  dsimp only
  cases c.opening <;> simp [State.onRecipe]

theorem CradleRec.commit_building (r : CradleRec) (c : Candidate) (n : Nat) :
    (r.commit c n).building = true := by
  simp only [CradleRec.commit, CradleRec.building]
  (repeat' split) <;> simp

theorem State.someBuilding_of (c : Cradle) (h : (s.cradle c).building = true) : s.someBuilding = true := by
  cases c <;> simp_all [State.someBuilding, State.cradle]

/-- A commit leaves the mode, its cradle building (R162, R163). -/
theorem State.commit_settled (c : Candidate) (x : Recipe) (recipe : s.rct[c.recipe]? = some x) :
    (s.ownFrameEnd.commit c).roundIdle.settle.mdc = s.mdc := by
  have cradle := (s.ownFrameEnd.commit_cradle c x (by simpa using recipe)).1
  have building : (s.ownFrameEnd.commit c).roundIdle.someBuilding = true := by
    refine State.someBuilding_of c.cradle ?_
    rw [State.cradle_congr (s := s.ownFrameEnd.commit c) c.cradle (by simp), cradle]
    exact CradleRec.commit_building _ _ _
  have idle : (s.ownFrameEnd.commit c).roundIdle.idleNow = false := by simp [State.idleNow, building]
  simp [State.settle_mdc, idle]

theorem State.ownFrameEnd_cradle (d : Cradle) : s.ownFrameEnd.cradle d = s.cradle d :=
  State.cradle_congr d (by simp)

/-- What a won frame that passes the recheck leaves, whichever candidate it is (R43, R47, R48). -/
theorem State.wonEnd_of_recheck {c : Candidate} {x : Recipe} (ok : s.recheck c = true)
    (recipe : s.rct[c.recipe]? = some x) :
    (s.wonEnd c).roundIdle.settle.cradle c.cradle = (s.cradle c.cradle).commit c x.n ∧
      (s.wonEnd c).roundIdle.settle.cradle (otherCradle c.cradle) = s.cradle (otherCradle c.cradle) ∧
      (s.wonEnd c).roundIdle.settle.drc = { s.drc with
        claims := insertByTag (·.stem.tag) ⟨c.stem, c.cradle, c.kind⟩ s.drc.claims } ∧
      (s.wonEnd c).roundIdle.settle.rct =
        (if c.opening = true then s.rct.modify c.recipe Recipe.bound else s.rct) ∧
      (s.wonEnd c).roundIdle.settle.rol = s.rol ∧ (s.wonEnd c).roundIdle.settle.mdc = s.mdc := by
  have taken : s.wonEnd c = s.ownFrameEnd.commit c := if_pos ok
  have settled := s.wonEnd_settled c
  obtain ⟨own, other, drc, rct⟩ := s.ownFrameEnd.commit_cradle c x (by simpa using recipe)
  have cradle : ∀ d, (s.ownFrameEnd.commit c).roundIdle.settle.cradle d = (s.ownFrameEnd.commit c).cradle d :=
    fun d => (State.settle_cradle _ d).trans (State.cradle_congr d (by simp))
  rw [taken] at settled ⊢
  refine ⟨?_, ?_, ?_, ?_, ?_, State.commit_settled c x recipe⟩
  · rw [cradle, own, State.ownFrameEnd_cradle]
  · rw [cradle, other, State.ownFrameEnd_cradle]
  · simpa using drc
  · simpa using rct
  · simpa using settled.2.1

/-- Settles O27. -/
theorem wonFrameCommitsToAFillingCradle : Obligations.WonFrameCommitsToAFillingCradle := by
  intro s c x run won chosen driven filling mode state recipe at_ fits short
  refine ⟨_, exec_sentCommand_of_won run won chosen driven, ?_⟩
  have ok : s.recheck c = true := by
    have fits : x.fits (widen (s.cradle c.cradle).envelope c.stem.length.val) = true := by
      simpa [Recipe.fits] using fits
    have bids : s.mdc.mode.bids = true := (Mode.bids_iff _).mpr mode
    simp [State.recheck, State.canTake, bids, at_, filling, state, recipe, fits, short]
  obtain ⟨own, other, drc, rct, rol, mdc⟩ := State.wonEnd_of_recheck ok at_
  obtain ⟨clu, -, ⟨tx, mismatches, receiver, claim, reclaim⟩, p, h⟩ := s.wonEnd_settled c
  refine ⟨?_, drc, other, clu, tx, mismatches, receiver, claim, reclaim, by simpa [filling] using rct, rol, mdc,
    p, h⟩
  rw [own]
  simp only [CradleRec.commit, filling, Bool.false_eq_true, if_false, CradleRec.k, Nat.add_assoc]

/-- Settles O28. -/
theorem wonFrameOpensAnEmptyCradle : Obligations.WonFrameOpensAnEmptyCradle := by
  intro s c x run won chosen driven opening mode state stack at_ open_ quota short
  refine ⟨_, exec_sentCommand_of_won run won chosen driven, ?_⟩
  have ok : s.recheck c = true := by
    have bind : x.canBind = true := by simpa [Recipe.canBind, open_] using quota
    simp [State.recheck, State.canTake, Mode.bids, mode, at_, opening, state, bind, short]
  obtain ⟨own, other, drc, rct, rol, mdc⟩ := State.wonEnd_of_recheck ok at_
  obtain ⟨clu, -, ⟨tx, mismatches, -⟩, p, h⟩ := s.wonEnd_settled c
  rw [if_pos opening] at rct
  refine ⟨?_, ?_, fun i ne => ?_, drc, other, clu, tx, mismatches, rol, mdc, p, h⟩
  · rw [own]
    simp [CradleRec.commit, opening, CradleRec.k, stack, widen, eq_comm]
  · rw [rct, List.getElem?_modify_eq, at_]
    rfl
  · rw [rct, List.getElem?_modify_ne _ _ (Ne.symm ne)]

/-- Settles O29. -/
theorem wonFrameForfeitedAtOnce : Obligations.WonFrameForfeitedAtOnce := by
  intro s c run won chosen driven fails
  refine ⟨_, exec_sentCommand_of_won run won chosen driven, ?_⟩
  have not_ : s.recheck c = false := by
    cases recheck : s.recheck c with
    | false => rfl
    | true =>
      exfalso
      simp only [State.recheck, Bool.and_eq_true, Mode.bids_iff] at recheck
      obtain ⟨⟨mode, can⟩, short⟩ := recheck
      cases at_ : s.rct[c.recipe]? with
      | none => simp [State.canTake, at_] at can
      | some x =>
        cases opening : c.opening <;> simp [State.canTake, at_, opening] at can <;>
          rcases fails with fails | fails | fails | fails <;> simp_all
  have forfeited : s.wonEnd c = s.ownFrameEnd.reoffer c.stem := if_neg (by simp [not_])
  obtain ⟨clu, rol, ⟨tx, mismatches, -⟩, -⟩ := s.wonEnd_settled c
  have list : (s.ownFrameEnd.reoffer c.stem).rol = (s.reoffer c.stem).rol :=
    State.reoffer_rol_congr _ (by simp) (by simp) (by simp)
  have cradle : ∀ d, (s.wonEnd c).roundIdle.settle.cradle d = s.cradle d := fun d => by
    rw [State.settle_cradle, forfeited]
    exact State.cradle_congr d (by simp)
  refine ⟨by simp [forfeited], cradle .a, cradle .b, by simp [forfeited], clu, tx, mismatches, ?_⟩
  rw [rol, forfeited, list]

end Sys2Proof.Machine
end

section
/-! What entering STOP does, block by block (R45, R98, R120, R121, R133). -/

namespace Sys2Proof.Machine

variable {s : State}

/-! ## ALERT notices -/

/-- An ALERT that finds the queue full leaves it (R150, R151). -/
theorem State.queueAlert_notices (full : 8 ≤ s.lbi.notices.length) :
    s.queueAlert.lbi.notices = s.lbi.notices := by
  obtain ⟨-, -, e⟩ | ⟨-, -, e⟩ | ⟨-, room, e⟩ | ⟨-, -, e⟩ := s.alertNotice_cases State.discardNotice <;>
    rw [State.queueAlert, e]
  · rfl
  · exact absurd room (by simpa [Config.noticesMax] using full)
  · exact State.discardNotice_notices full

/-- With the lost flag set, an ALERT writes no record and leaves the flag (R150). -/
theorem State.queueAlert_of_lost (lost : s.lbi.lost = true) :
    s.queueAlert.alc = s.alc ∧ s.queueAlert.lbi.lost = true := by
  obtain ⟨-, -, e⟩ | ⟨-, -, e⟩ | ⟨-, -, e⟩ | ⟨-, -, e⟩ := s.alertNotice_cases State.discardNotice <;>
    rw [State.queueAlert, e]
  · exact ⟨rfl, lost⟩
  · exact ⟨rfl, lost⟩
  · exact ⟨rfl, lost⟩
  · rw [State.discardNotice_alc, if_pos lost, State.discardNotice_lost]
    exact ⟨rfl, rfl⟩

/-- The notices of one state are those of another, and ALERTs besides. -/
def LineBus.AlertsOnly (l m : LineBus) : Prop := ∀ n ∈ m.notices, n ∈ l.notices ∨ n = .alert

theorem LineBus.AlertsOnly.refl (l : LineBus) : l.AlertsOnly l := fun _ => .inl

theorem LineBus.AlertsOnly.trans {l m n : LineBus} (h : l.AlertsOnly m) (k : m.AlertsOnly n) :
    l.AlertsOnly n := fun x mem => (k x mem).elim (h x) .inr

theorem State.alertNotice_only (s : State) (full : State → State)
    (h : ∀ t : State, t.lbi.AlertsOnly (full t).lbi) : s.lbi.AlertsOnly (s.alertNotice full).lbi := by
  obtain ⟨-, -, e⟩ | ⟨-, -, e⟩ | ⟨-, -, e⟩ | ⟨-, -, e⟩ := s.alertNotice_cases full <;> rw [e]
  · exact .refl _
  · exact .refl _
  · intro n mem
    simpa using mem
  · exact h s

theorem State.attention_only (s : State) (c : Cause) (param : BitVec 12) (full : State → State)
    (h : ∀ t : State, t.lbi.AlertsOnly (full t).lbi) : s.lbi.AlertsOnly (s.attention c param full).lbi := by
  unfold State.attention
  dsimp only
  split
  · exact State.alertNotice_only (s.setAlc _) full h
  · exact .refl _

theorem State.discardNotice_only (s : State) : s.lbi.AlertsOnly s.discardNotice.lbi := by
  have lost : ∀ t : State, t.lbi.AlertsOnly t.putLost.lbi := fun t => .refl _
  unfold State.discardNotice
  split
  · exact lost s
  · exact (lost s).trans (State.attention_only _ _ _ _ lost)

theorem State.queueAlert_only (s : State) : s.lbi.AlertsOnly s.queueAlert.lbi :=
  s.alertNotice_only _ State.discardNotice_only

/-! ## The end report of a condition while another cause is current -/

/-- With another cause current, a condition that ends queues nothing (R120). -/
theorem State.endCondition_of_other {c : Cause} (other : ∀ r ∈ s.alc.current, r.cause ≠ c) :
    s.endCondition c = s.setAlc (s.alc.drop c) := by
  have no : s.alc.current.any (fun r => r.cause == c) = false := by
    cases k : s.alc.current <;> simp_all
  rw [State.endCondition, AlertController.drop_of_other other]
  exact if_neg (by simp [no])

/-! ## The steps of the entry -/

/-- The entry to STOP but for the end report of BLOCKED (R121). -/
def State.stopping (s : State) (c : Cause) (param : BitVec 12) : State :=
  (((s.recordStop c param).saveMode.changeMode .stopped).stopForfeit).holdForStop

theorem State.enterStop_stopping (s : State) (c : Cause) (param : BitVec 12) :
    s.enterStop c param = (s.stopping c param).reviewBlocked := s.enterStop_eq c param

/-- `State.recordStop` changes no block but alc, lbi. -/
@[simp] theorem State.recordStop_frame (s : State) (c : Cause) (param : BitVec 12) :
    (s.recordStop c param).ptr = s.ptr ∧ (s.recordStop c param).rct = s.rct ∧
      (s.recordStop c param).clu = s.clu ∧ (s.recordStop c param).rol = s.rol ∧
      (s.recordStop c param).drc = s.drc ∧ (s.recordStop c param).crm = s.crm ∧
      (s.recordStop c param).now = s.now := by
  simp [State.recordStop]

/-- `State.saveMode` changes no block but alc. -/
@[simp] theorem State.saveMode_blocks (s : State) :
    s.saveMode.ptr = s.ptr ∧ s.saveMode.rct = s.rct ∧ s.saveMode.clu = s.clu ∧ s.saveMode.rol = s.rol ∧
      s.saveMode.drc = s.drc ∧ s.saveMode.crm = s.crm ∧ s.saveMode.lbi = s.lbi ∧ s.saveMode.now = s.now :=
  ⟨rfl, rfl, rfl, rfl, rfl, rfl, rfl, rfl⟩

/-- `State.holdForStop` changes no block but ptr. -/
@[simp] theorem State.holdForStop_frame (s : State) :
    s.holdForStop.rct = s.rct ∧ s.holdForStop.clu = s.clu ∧ s.holdForStop.rol = s.rol ∧
      s.holdForStop.drc = s.drc ∧ s.holdForStop.crm = s.crm ∧ s.holdForStop.alc = s.alc ∧
      s.holdForStop.lbi = s.lbi ∧ s.holdForStop.mdc = s.mdc ∧ s.holdForStop.now = s.now := by
  unfold State.holdForStop
  split <;> simp

/-- The hold reason STOP follows the policy, and P and H stay (R121). -/
theorem State.holdForStop_ptr (s : State) :
    s.holdForStop.ptr.p = s.ptr.p ∧ s.holdForStop.ptr.h = s.ptr.h ∧
      s.holdForStop.ptr.holdStop = (s.ptr.holdStop || s.policy (·.holdOnStop)) := by
  unfold State.holdForStop
  split <;> rename_i policy
  · rw [(s.setHold_ptr true).2]
    simp [policy]
  · simp [policy]

/-! ## The forfeits -/

/-- An un-commit leaves the made counts (R25). -/
theorem State.uncommit_made (s : State) (c : Cradle) (n : Nat) :
    (s.uncommit c n).rct.map (·.made) = s.rct.map (·.made) := by
  have unbound : ∀ (l : List Recipe) (i : Nat), (l.modify i Recipe.unbound).map (·.made) = l.map (·.made) := by
    intro l i
    refine List.ext_getElem? fun j => ?_
    simp only [List.getElem?_map, List.getElem?_modify]
    cases l[j]? <;> simp [Recipe.unbound]
    split <;> rfl
  unfold State.uncommit
  split
  · rfl
  · rw [State.afterLoss_rct]
    (repeat' split) <;> simp [unbound]

/-- The forfeits at the cradles: the stacks stay, and the pending entries are un-committed (R68, R98). -/
theorem State.stopForfeit_cradle (s : State) (c : Cradle) :
    (s.stopForfeit.cradle c).stack = (s.cradle c).stack ∧
      (s.stopForfeit.cradle c).committed = (s.cradle c).committed - s.claimCount c := by
  unfold State.stopForfeit
  dsimp only
  generalize forfeits : (s.setDrc { s.drc with claims := [], gateLock := true }).reofferAll
    (s.drc.claims.map (·.stem)) = t
  have same : ∀ d, t.cradle d = s.cradle d := fun d => by
    rw [← forfeits]
    exact State.cradle_congr d (by simp)
  obtain ⟨stackA, -, -, committedA, otherA, -⟩ := t.uncommit_keeps .a (s.claimCount .a)
  obtain ⟨stackB, -, -, committedB, otherB, -⟩ :=
    (t.uncommit .a (s.claimCount .a)).uncommit_keeps .b (s.claimCount .b)
  cases c with
  | a =>
    have last : ((t.uncommit .a (s.claimCount .a)).uncommit .b (s.claimCount .b)).cradle .a =
      (t.uncommit .a (s.claimCount .a)).cradle .a := otherB
    rw [last, stackA, committedA, same]
    exact ⟨rfl, rfl⟩
  | b =>
    have first : (t.uncommit .a (s.claimCount .a)).cradle .b = t.cradle .b := otherA
    rw [stackB, committedB, first, same]
    exact ⟨rfl, rfl⟩

theorem State.stopForfeit_blocked (s : State) : s.stopForfeit.crm.blocked = s.crm.blocked := by
  unfold State.stopForfeit
  simp [State.uncommit_keeps]

theorem State.stopForfeit_made (s : State) : s.stopForfeit.rct.map (·.made) = s.rct.map (·.made) := by
  unfold State.stopForfeit
  simp [State.uncommit_made]

theorem State.stopForfeit_rol (s : State) :
    s.stopForfeit.rol = (s.reofferAll (s.drc.claims.map (·.stem))).rol := by
  unfold State.stopForfeit
  simpa using State.reofferAll_rol_congr (s := s)
    (t := s.setDrc { s.drc with claims := [], gateLock := true }) _ rfl rfl rfl

/-! ## The whole entry -/

/-- The records as the entry to STOP finds them set, BLOCKED apart (R121). -/
def AlertController.stopWith (x : AlertController) (r : Record) (m : Mode) : AlertController :=
  { x with saved := x.current, current := some r, savedMode := some m }

theorem State.stopping_alc (s : State) (c : Cause) (param : BitVec 12) :
    (s.stopping c param).alc = { (s.recordStop c param).alc with savedMode := some s.mdc.mode } := by
  simp [State.stopping, State.saveMode]

/-- The level-2 record is current, the old current record and the mode are saved (R121). -/
theorem State.stopping_records (s : State) (c : Cause) (param : BitVec 12) :
    (s.stopping c param).alc.current = some ⟨c, param, s.stamp⟩ ∧
      (s.stopping c param).alc.saved = s.alc.current ∧
      (s.stopping c param).alc.savedMode = some s.mdc.mode := by
  have mayLose : ({ s.alc with saved := s.alc.current, current := some ⟨c, param, s.stamp⟩ } :
      AlertController).MayLose (s.recordStop c param).alc :=
    State.queueAlert_mayLose (s.setAlc { s.alc with saved := s.alc.current, current := some ⟨c, param, s.stamp⟩ })
  rw [State.stopping_alc]
  exact ⟨mayLose.current rfl, mayLose.frame.1, rfl⟩

theorem State.stopping_blocked (s : State) (c : Cause) (param : BitVec 12) :
    (s.stopping c param).crm.blocked = s.crm.blocked := by
  simp [State.stopping, State.stopForfeit_blocked]

theorem State.stopping_blockedNow (s : State) (c : Cause) (param : BitVec 12) :
    (s.stopping c param).blockedNow = false := by
  simp [State.blockedNow, State.stopping]

theorem State.stopping_other {c : Cause} (stop : c.isStop = true) (s : State) (param : BitVec 12) :
    ∀ r ∈ (s.stopping c param).alc.current, r.cause ≠ .blocked := by
  intro r m
  rw [(s.stopping_records c param).1] at m
  obtain rfl := Option.some.inj m
  exact Cause.ne_condition_of_isStop stop rfl

/-- BLOCKED ends with the mode at the entry to STOP (R78, R120). -/
def State.unblocked (s : State) : State :=
  ((s.setCrm { s.crm with blocked := false }).setAlc (s.alc.drop .blocked)).setHoldBlocked false

/-- The end report of BLOCKED at the entry to STOP: of the records, those of BLOCKED alone leave (R120). -/
theorem State.enterStop_review {c : Cause} (stop : c.isStop = true) (s : State) (param : BitVec 12) :
    s.enterStop c param =
      if s.crm.blocked = true then (s.stopping c param).unblocked else s.stopping c param := by
  rw [State.enterStop_stopping, State.reviewBlocked, State.stopping_blockedNow, State.stopping_blocked]
  cases s.crm.blocked with
  | false => rfl
  | true =>
    have ends := State.endCondition_of_other
      (s := (s.stopping c param).setCrm { (s.stopping c param).crm with blocked := false })
      (s.stopping_other stop param)
    exact congrArg (·.setHoldBlocked false) ends

theorem State.enterStop_alc {c : Cause} (stop : c.isStop = true) (s : State) (param : BitVec 12) :
    (s.enterStop c param).alc =
      if s.crm.blocked = true then (s.stopping c param).alc.drop .blocked else (s.stopping c param).alc := by
  rw [State.enterStop_review stop]
  split <;> simp [State.unblocked]

theorem State.enterStop_lbi {c : Cause} (stop : c.isStop = true) (s : State) (param : BitVec 12) :
    (s.enterStop c param).lbi = (s.stopping c param).lbi := by
  rw [State.enterStop_review stop]
  split <;> simp [State.unblocked]

/-- The records after the entry to STOP (R120, R121). -/
theorem State.enterStop_records {c : Cause} (stop : c.isStop = true) (s : State) (param : BitVec 12) :
    (s.enterStop c param).alc.current = some ⟨c, param, s.stamp⟩ ∧
      (s.enterStop c param).alc.savedMode = some s.mdc.mode ∧
      (s.crm.blocked = false → (s.enterStop c param).alc.saved = s.alc.current) ∧
      (s.crm.blocked = true →
        (s.enterStop c param).alc.saved = s.alc.current.filter fun r => r.cause ≠ .blocked) := by
  obtain ⟨current, saved, mode⟩ := s.stopping_records c param
  rw [State.enterStop_alc stop, AlertController.drop_of_other (s.stopping_other stop param)]
  cases s.crm.blocked with
  | false => simp [current, saved, mode]
  | true => simp [current, saved, mode, bne, decide_not, BEq.beq]

/-- The round, the list and the tracker after the entry to STOP (R45, R98, R121). -/
theorem State.enterStop_blocks (s : State) (c : Cause) (param : BitVec 12) :
    (s.enterStop c param).clu = s.roundWithoutMode ∧
      (s.enterStop c param).rol = (s.reofferAll (s.wonStems ++ s.drc.claims.map (·.stem))).rol ∧
      (s.enterStop c param).ptr.p = s.ptr.p ∧ (s.enterStop c param).ptr.h = s.ptr.h ∧
      (s.enterStop c param).ptr.holdStop = (s.ptr.holdStop || s.policy (·.holdOnStop)) ∧
      (s.enterStop c param).rct.map (·.made) = s.rct.map (·.made) ∧
      ∀ d, ((s.enterStop c param).cradle d).stack = (s.cradle d).stack ∧
        ((s.enterStop c param).cradle d).committed = (s.cradle d).committed - s.claimCount d := by
  generalize before : (s.recordStop c param).saveMode = u
  have ptr : u.ptr = s.ptr := by simp [← before]
  have mdc : u.mdc = s.mdc := by simp [← before]
  have drc : u.drc = s.drc := by simp [← before]
  have crm : u.crm = s.crm := by simp [← before]
  have rct : u.rct = s.rct := by simp [← before]
  have clu : u.clu = s.clu := by simp [← before]
  have rol : u.rol = s.rol := by simp [← before]
  have tx : u.lbi.tx = s.lbi.tx := by
    rw [← before]
    exact (State.queueAlert_grows (s.setAlc _)).frame.2.2.1
  have driving : u.drivingClaim = s.drivingClaim := by simp [State.drivingClaim, tx]
  obtain ⟨ends, list, -⟩ := u.changeMode_of_ends (m := .stopped) rfl
  have policy : ((u.changeMode .stopped).stopForfeit).policy (·.holdOnStop) = s.policy (·.holdOnStop) := by
    simp [State.policy, mdc]
  obtain ⟨p, h, hold⟩ := ((u.changeMode .stopped).stopForfeit).holdForStop_ptr
  have review := ((u.changeMode .stopped).stopForfeit).holdForStop.reviewBlocked_ptr
  have cradle : ∀ (v : State) (d : Cradle), v.reviewBlocked.cradle d = v.cradle d := fun v d => by
    have : v.reviewBlocked.crm = { v.crm with blocked := v.blockedNow } := v.reviewBlocked_crm
    cases d <;> simp only [State.cradle] <;> rw [this]
  rw [State.enterStop_eq, before]
  refine ⟨?_, ?_, ?_, ?_, ?_, ?_, fun d => ?_⟩
  · simp [ends, State.roundWithoutMode, driving, clu]
  · have forfeits := (u.changeMode .stopped).stopForfeit_rol
    have won : (u.changeMode .stopped).rol = (s.reofferAll s.wonStems).rol := by
      rw [list, State.wonStems_congr clu]
      exact State.reofferAll_rol_congr _ (by rw [ptr]) (by rw [mdc]) rol
    have claims : (u.changeMode .stopped).drc.claims = s.drc.claims := by simp [drc]
    simp only [State.reviewBlocked_frame, State.holdForStop_frame, forfeits, claims, State.reofferAll_append]
    exact State.reofferAll_rol_congr _ (by simp [ptr]) (by simp [mdc]) won
  · rw [review]
    simpa [ptr] using p
  · rw [review]
    simpa [ptr] using h
  · rw [review]
    simpa [ptr, policy] using hold
  · simp [State.stopForfeit_made, rct]
  · obtain ⟨stack, committed⟩ := (u.changeMode .stopped).stopForfeit_cradle d
    have same : (u.changeMode .stopped).cradle d = s.cradle d := State.cradle_congr d (by simp [crm])
    have count : (u.changeMode .stopped).claimCount d = s.claimCount d := State.claimCount_congr d (by simp [drc])
    have hold : ((u.changeMode .stopped).stopForfeit).holdForStop.cradle d =
        ((u.changeMode .stopped).stopForfeit).cradle d := State.cradle_congr d (by simp)
    rw [cradle, hold, stack, committed, same, count]
    exact ⟨rfl, rfl⟩

/-- The bus interface as the entry to STOP leaves it, its own ALERT apart (R45, R121). -/
theorem State.stopping_lbi (s : State) (c : Cause) (param : BitVec 12) :
    (s.stopping c param).lbi = { (s.recordStop c param).lbi with
      tx := if s.drivingClaim = true ∧ (s.clu.round = .bidding ∨ s.clu.round = .won) then none
        else s.lbi.tx } := by
  have grows : s.lbi.NoticesGrow (s.recordStop c param).lbi := State.queueAlert_grows (s.setAlc _)
  have tx : (s.recordStop c param).lbi.tx = s.lbi.tx := grows.frame.2.2.1
  have driving : (s.recordStop c param).saveMode.drivingClaim = s.drivingClaim := by
    simp [State.drivingClaim, tx]
  obtain ⟨-, -, lbi⟩ := (s.recordStop c param).saveMode.changeMode_of_ends (m := .stopped) rfl
  simp [State.stopping, lbi, driving, tx]

/-- Notices only join at the entry to STOP, and of the rest of the bus interface a claim frame stops (R45). -/
theorem State.enterStop_grows {c : Cause} (stop : c.isStop = true) (s : State) (param : BitVec 12) :
    ({ s.lbi with
      tx := if s.drivingClaim = true ∧ (s.clu.round = .bidding ∨ s.clu.round = .won) then none
        else s.lbi.tx } : LineBus).NoticesGrow (s.enterStop c param).lbi := by
  have grows : s.lbi.NoticesGrow (s.recordStop c param).lbi := State.queueAlert_grows (s.setAlc _)
  rw [State.enterStop_lbi stop, State.stopping_lbi]
  obtain ⟨rest, prefix_⟩ := grows
  refine ⟨?_, prefix_⟩
  rw [rest]

/-- The ALERT of the entry to STOP waits, where there is room (R121, R133). -/
theorem State.enterStop_alert {c : Cause} (stop : c.isStop = true) {s : State} (param : BitVec 12)
    (room : s.lbi.notices.length < 8) : .alert ∈ (s.enterStop c param).lbi.notices := by
  rw [State.enterStop_lbi stop, State.stopping_lbi]
  exact State.queueAlert_mem (s := s.setAlc _) room

end Sys2Proof.Machine
end

section
/-! The level-2 causes (R94, R121, R122): a second mismatch (R147, R148), a stuck gate, a profile that is refused
(R155, R156) and the station's own number heard (R160). -/

namespace Sys2Proof.Machine

variable {s : State}

/-! ## Raising a level-2 cause -/

/-- A level-2 cause raised outside STOP: what every such raise brings about (R121). -/
theorem State.raise2_enters {c : Cause} (stop : c.isStop = true) (param : BitVec 12) (moving : s.level ≠ .stop) :
    (s.raise2 c param).alc.current = some ⟨c, param, s.stamp⟩ ∧
      (s.raise2 c param).mdc = { s.mdc with mode := .stopped } ∧
      (s.raise2 c param).alc.savedMode = some s.mdc.mode ∧
      (s.raise2 c param).drc = { s.drc with claims := [], gateLock := true } := by
  rw [State.raise2_of_not_stop c param moving]
  obtain ⟨mdc, drc⟩ := s.enterStop_does c param
  obtain ⟨current, saved, -⟩ := State.enterStop_records stop s param
  exact ⟨current, mdc, saved, drc⟩

/-- A level-2 cause raised in STOP: it waits, and nothing else changes (R122). -/
theorem State.raise2_waits {c : Cause} (param : BitVec 12) (stopped : s.level = .stop) :
    ⟨c, param, s.stamp⟩ ∈ (s.raise2 c param).alc.pend2 ∧
      (s.raise2 c param).alc.current = s.alc.current ∧ (s.raise2 c param).alc.saved = s.alc.saved ∧
      (s.raise2 c param).mdc = s.mdc ∧ (s.raise2 c param).drc = s.drc ∧ (s.raise2 c param).crm = s.crm ∧
      (s.raise2 c param).lbi = s.lbi := by
  rw [State.raise2_in_stop c param stopped]
  exact ⟨mem_putRecord_self _ _, rfl, rfl, rfl, rfl, rfl, rfl⟩

/-- What a level-2 cause leaves, in STOP and outside it (R121, R122). -/
theorem State.raise2_leaves (s : State) (c : Cause) (param : BitVec 12) :
    (s.raise2 c param).drc.falling = s.drc.falling ∧ (∀ d, ((s.raise2 c param).cradle d).stack = (s.cradle d).stack) ∧
      (s.raise2 c param).ptr.p = s.ptr.p ∧ (s.raise2 c param).ptr.h = s.ptr.h ∧
      (s.raise2 c param).rct.map (·.made) = s.rct.map (·.made) ∧ (s.raise2 c param).rol.sending = s.rol.sending ∧
      (s.raise2 c param).drc.missRun = s.drc.missRun ∧ (s.raise2 c param).drc.gate = s.drc.gate ∧
      (∀ d, (s.raise2 c param).beam d = s.beam d) := by
  by_cases stopped : s.level = .stop
  · rw [State.raise2_in_stop c param stopped]
    exact ⟨rfl, fun d => by simp, rfl, rfl, rfl, rfl, rfl, rfl, fun d => by simp⟩
  · rw [State.raise2_of_not_stop c param stopped]
    obtain ⟨-, drc⟩ := s.enterStop_does c param
    obtain ⟨-, rol, p, h, -, made, cradles⟩ := s.enterStop_blocks c param
    refine ⟨by rw [drc], fun d => (cradles d).1, p, h, made, by rw [rol]; simp, by rw [drc], by rw [drc],
      fun d => ?_⟩
    cases d <;> simp [State.beam, drc]

/-- The round a level-2 cause finds over stays so (R45). -/
theorem State.raise2_atRest (c : Cause) (param : BitVec 12) (rest : s.clu = .atRest) :
    (s.raise2 c param).clu = .atRest := by
  by_cases stopped : s.level = .stop
  · rw [State.raise2_in_stop c param stopped]
    exact rest
  · rw [State.raise2_of_not_stop c param stopped, (s.enterStop_blocks c param).1, State.roundWithoutMode, rest]
    rfl

/-- Notices only join as a level-2 cause is raised, and of the rest of the bus interface a claim frame may stop. -/
theorem State.raise2_grows {c : Cause} (stop : c.isStop = true) (s : State) (param : BitVec 12) :
    ({ s.lbi with tx := (s.raise2 c param).lbi.tx } : LineBus).NoticesGrow (s.raise2 c param).lbi ∧
      (s.lbi.tx = none → (s.raise2 c param).lbi.tx = none) := by
  by_cases stopped : s.level = .stop
  · rw [State.raise2_in_stop c param stopped]
    exact ⟨.refl _, id⟩
  · rw [State.raise2_of_not_stop c param stopped]
    have grows := State.enterStop_grows stop s param
    have tx := grows.frame.2.2.1
    refine ⟨?_, fun silent => ?_⟩
    · rw [tx]
      exact grows
    · rw [tx]
      simp [silent]

/-! ## TRANSMIT_MISMATCH -/

/-- The frame is abandoned, and a claim round with it (R44, R107, R147). -/
def State.abandon (s : State) (atStart : Bool) : State :=
  if s.drivingClaim then ((s.mismatchReceiver atStart).stopDriving).roundIdle
  else (s.mismatchReceiver atStart).stopDriving

theorem exec_transmitMismatch_of_driven {f : Frame} (atStart : Bool) (run : s.inReset = false)
    (driven : s.lbi.tx = some f) :
    exec (.transmitMismatch atStart) s = .next (s.abandon atStart).countMismatch := by
  rw [exec_transmitMismatch_eq, running_of_running _ run, State.mismatch, if_pos (by simp [driven])]
  rfl

/-- `State.abandon` changes no block but clu, rol, lbi. -/
@[simp] theorem State.abandon_frame (s : State) (atStart : Bool) :
    (s.abandon atStart).ptr = s.ptr ∧ (s.abandon atStart).rct = s.rct ∧ (s.abandon atStart).drc = s.drc ∧
      (s.abandon atStart).crm = s.crm ∧ (s.abandon atStart).alc = s.alc ∧ (s.abandon atStart).mdc = s.mdc := by
  unfold State.abandon
  split <;> simp

theorem State.mismatchReceiver_lbi (s : State) (atStart : Bool) :
    (s.mismatchReceiver atStart).lbi = { s.lbi with
      receiver := (s.mismatchReceiver atStart).lbi.receiver, openRun := (s.mismatchReceiver atStart).lbi.openRun } := by
  unfold State.mismatchReceiver
  split <;> rfl

theorem State.abandon_does (s : State) (atStart : Bool) :
    (s.abandon atStart).clu = (if s.drivingClaim = true then .atRest else s.clu) ∧
      (s.abandon atStart).rol = { s.rol with sending := none } ∧
      (s.abandon atStart).lbi = { s.lbi with
        tx := none, receiver := (s.abandon atStart).lbi.receiver, openRun := (s.abandon atStart).lbi.openRun } ∧
      (atStart = false → (s.abandon atStart).lbi.receiver = s.lbi.receiver ∧
        (s.abandon atStart).lbi.openRun = s.lbi.openRun) := by
  have lbi : (s.abandon atStart).lbi = { (s.mismatchReceiver atStart).lbi with tx := none } := by
    unfold State.abandon
    split <;> rfl
  have receiver := s.mismatchReceiver_lbi atStart
  refine ⟨?_, ?_, ?_, fun later => ?_⟩
  · unfold State.abandon
    split <;> simp
  · unfold State.abandon
    split <;> simp [State.stopDriving]
  · rw [lbi]
    dsimp only
    rw [receiver]
  · subst later
    rw [lbi]
    exact ⟨rfl, rfl⟩

/-- Settles O25. -/
theorem transmitMismatchIsCounted : Obligations.TransmitMismatchIsCounted := by
  intro s f atStart run driven
  obtain ⟨clu, rol, lbi, later⟩ := s.abandon_does atStart
  refine ⟨fun first => ⟨_, exec_transmitMismatch_of_driven atStart run driven, ?_⟩,
    fun second => ⟨_, exec_transmitMismatch_of_driven atStart run driven, ?_⟩⟩
  · have count : (s.abandon atStart).countMismatch =
        (s.abandon atStart).setLbi { (s.abandon atStart).lbi with mismatches := 1 } :=
      if_pos (by rw [lbi]; exact first)
    rw [count]
    refine ⟨clu, rol, ?_, later, by simp, by simp, by simp, by simp, by simp, by simp⟩
    rw [State.setLbi_lbi, lbi]
  · generalize reset : (s.abandon atStart).setLbi { (s.abandon atStart).lbi with mismatches := 0 } = u
    have count : (s.abandon atStart).countMismatch = u.raise2 .busFault 0 := by
      rw [← reset]
      exact if_neg (by rw [lbi]; simp [second])
    have level : u.level = s.level := State.level_congr (by simp [← reset])
    have stamp : u.stamp = s.stamp := State.stamp_congr (by simp [← reset])
    have mdc : u.mdc = s.mdc := by simp [← reset]
    have drc : u.drc = s.drc := by simp [← reset]
    have alc : u.alc = s.alc := by simp [← reset]
    have ptr : u.ptr = s.ptr := by simp [← reset]
    have crm : u.crm = s.crm := by simp [← reset]
    have cluU : u.clu = if s.drivingClaim = true then .atRest else s.clu := by rw [← reset, ← clu]; rfl
    have silent : u.lbi.tx = none := by
      rw [← reset, State.setLbi_lbi, lbi]
    have unsent : u.rol.sending = none := by rw [← reset, State.setLbi_rol, rol]
    obtain ⟨falling, piles, p, h, -, sending, -⟩ := u.raise2_leaves .busFault 0
    obtain ⟨grows, stays⟩ := State.raise2_grows (c := .busFault) rfl u 0
    have mismatches : (u.raise2 .busFault 0).lbi.mismatches = 0 := by
      rw [grows.frame.2.2.2.1, ← reset]
      rfl
    rw [count]
    refine ⟨stays silent, mismatches, sending.trans unsent, fun claim => ?_, fun moving => ?_,
      falling.trans (by rw [drc]), (piles .a).trans (by simp [State.cradle, crm]),
      (piles .b).trans (by simp [State.cradle, crm]), p.trans (by rw [ptr]), h.trans (by rw [ptr]),
      fun stopped => ?_⟩
    · exact State.raise2_atRest _ _ (by rw [cluU, if_pos claim])
    · obtain ⟨current, mode, saved, drops⟩ :=
        State.raise2_enters (s := u) (c := .busFault) rfl 0 (by rwa [level])
      rw [current, mode, saved, drops, stamp, mdc]
      exact ⟨rfl, rfl, rfl, rfl, rfl⟩
    · obtain ⟨waits, current, -, mode, drops, -⟩ :=
        State.raise2_waits (s := u) (c := .busFault) 0 (by rwa [level])
      rw [stamp] at waits
      exact ⟨waits, by rw [current, alc], by rw [mode, mdc], by rw [drops, drc]⟩

/-! ## GATE_STUCK -/

/-- The beam's timer stops, and the spell has raised GATE-STUCK (R94). -/
def State.stuck (s : State) (c : Cradle) (since : Nat) : State :=
  (s.reach (since + 500000)).setBeam c { s.beam c with timer := none, stuckRaised := true }

theorem exec_gateStuck_of_running {c : Cradle} {since : Nat} (run : s.inReset = false)
    (blocked : (s.beam c).blocked = true) (first : (s.beam c).stuckRaised = false)
    (timer : (s.beam c).timer = some since) :
    exec (.gateStuck c) s = .next ((s.stuck c since).raise2 .gateStuck (cradleParam c)) := by
  rw [exec_gateStuck_eq, running_of_running _ run, State.gateStuck, timer]
  exact congrArg _ (if_pos ⟨blocked, first⟩)

/-- Settles O53. -/
theorem gateStuckEntersStop : Obligations.GateStuckEntersStop := by
  intro s c since run blocked first timer
  refine ⟨_, exec_gateStuck_of_running run blocked first timer, ?_⟩
  generalize stuck : s.stuck c since = u
  have ptr : u.ptr = s.ptr := by simp [← stuck, State.stuck]
  have rct : u.rct = s.rct := by simp [← stuck, State.stuck]
  have clu : u.clu = s.clu := by simp [← stuck, State.stuck]
  have rol : u.rol = s.rol := by simp [← stuck, State.stuck]
  have crm : u.crm = s.crm := by simp [← stuck, State.stuck]
  have alc : u.alc = s.alc := by simp [← stuck, State.stuck]
  have lbi : u.lbi = s.lbi := by simp [← stuck, State.stuck]
  have mdc : u.mdc = s.mdc := by simp [← stuck, State.stuck]
  have drc : u.drc.falling = s.drc.falling ∧ u.drc.missRun = s.drc.missRun ∧ u.drc.gate = s.drc.gate ∧
      u.drc.claims = s.drc.claims := by simp [← stuck, State.stuck]
  have beam : u.beam c = ⟨true, none, true⟩ := by
    rw [← stuck, State.stuck, State.setBeam_beam]
    simp [blocked]
  have now : u.now = max s.now (since + 500000) := by simp [← stuck, State.stuck]
  have level : u.level = s.level := State.level_congr alc
  have stamp : u.stamp = s.stamp := State.stamp_congr ptr
  have cradle : ∀ d, u.cradle d = s.cradle d := fun d => State.cradle_congr d crm
  obtain ⟨falling, piles, p, h, made, -, missRun, gate, beams⟩ := u.raise2_leaves .gateStuck (cradleParam c)
  refine ⟨(beams c).trans beam, by simp [now], falling.trans drc.1, (piles .a).trans (by rw [cradle]; rfl),
    (piles .b).trans (by rw [cradle]; rfl), made.trans (by rw [rct]), missRun.trans drc.2.1, gate.trans drc.2.2.1,
    p.trans (by rw [ptr]), h.trans (by rw [ptr]), fun moving => ?_, fun stopped => ?_⟩
  · rw [State.raise2_of_not_stop _ _ (by rwa [level])]
    obtain ⟨mode, drops⟩ := u.enterStop_does .gateStuck (cradleParam c)
    obtain ⟨current, savedMode, open_, closed⟩ :=
      State.enterStop_records (c := .gateStuck) rfl u (cradleParam c)
    obtain ⟨round, list, -, -, hold, -, counts⟩ := u.enterStop_blocks .gateStuck (cradleParam c)
    have forfeited : (u.reofferAll (u.wonStems ++ u.drc.claims.map (·.stem))).rol =
        (s.reofferAll (s.wonStems ++ s.drc.claims.map (·.stem))).rol := by
      rw [State.wonStems_congr clu, drc.2.2.2]
      exact State.reofferAll_rol_congr _ (by rw [ptr]) (by rw [mdc]) rol
    have count : ∀ d, u.claimCount d = s.claimCount d := fun d => by simp [State.claimCount, drc.2.2.2]
    rw [crm, alc] at open_ closed
    refine ⟨by rw [current, stamp], open_, fun b _ => closed b, fun room => ?_, by rw [savedMode, mdc],
      by rw [mode, mdc], by rw [drops], by rw [drops], by rw [hold, ptr, State.policy_congr _ mdc],
      (counts .a).2.trans (by rw [cradle, count]; rfl), (counts .b).2.trans (by rw [cradle, count]; rfl),
      list.trans forfeited, ?_⟩
    · exact State.enterStop_alert (c := .gateStuck) rfl _ (by rwa [lbi])
    · rw [round, State.roundWithoutMode, State.drivingClaim_congr lbi, clu] <;> rfl
  · obtain ⟨waits, current, saved, mode, drops, cradles, -⟩ :=
      State.raise2_waits (s := u) (c := .gateStuck) (cradleParam c) (by rwa [level])
    rw [stamp] at waits
    exact ⟨waits, by rw [current, alc], by rw [saved, alc], by rw [mode, mdc], by rw [drops, drc.2.2.2],
      by rw [cradles, crm]⟩

/-! ## A profile that is refused -/

/-- A byte that is not acknowledged fails the read (R155). -/
theorem ackedBytes_eq_none {n i : Nat} {l : List (Option Byte)} (less : i < n) (gap : l.getD i none = none) :
    ackedBytes n l = none := by
  induction n generalizing l i with
  | zero => omega
  | succ n ih =>
    cases l with
    | nil => rfl
    | cons b l =>
      cases b with
      | none => rfl
      | some b =>
        cases i with
        | zero => simp at gap
        | succ i => simp [ackedBytes, ih (i := i) (l := l) (by omega) (by simpa using gap)]

theorem SerialMemory.read_failed {m : SerialMemory}
    (bad : m.address ≠ 0b1010011 ∨ ∃ i < 64, m.bytes.getD i none = none) : m.read = .failed := by
  unfold SerialMemory.read
  split
  · rename_i address
    obtain ⟨i, less, gap⟩ := bad.resolve_left (fun other => other address)
    rw [Config.imageBytes, ackedBytes_eq_none less gap]
  · rfl

/-- Settles O44. -/
theorem badProfileStopsTheStation : Obligations.BadProfileStopsTheStation := by
  intro s m param run reading unread empty fault
  refine ⟨fun bad => ?_, _, by rw [exec_profileReadEnd_eq, running_of_running _ run], ?_⟩
  · rw [SerialMemory.read_failed bad] at fault
    exact (Option.some.inj fault).symm
  · have refused : s.profileReadEnd m = s.refuseProfile param := by
      rw [State.profileReadEnd, if_pos reading, fault]
    rw [refused, State.refuseProfile]
    generalize done : s.setMdc { s.mdc with profileRead := .done } = u
    have mdc : u.mdc = { s.mdc with profileRead := .done } := by rw [← done]; rfl
    have level : u.level = s.level := by simp [← done]
    have stamp : u.stamp = s.stamp := by simp [← done]
    have ptr : u.ptr = s.ptr := by simp [← done]
    have alc : u.alc = s.alc := by simp [← done]
    have rct : u.rct = [] := by simpa [← done] using empty
    obtain ⟨-, -, -, -, made, -⟩ := u.raise2_leaves .profileBad (BitVec.ofNat 12 param)
    have table : (u.raise2 .profileBad (BitVec.ofNat 12 param)).rct = [] := by
      rw [rct] at made
      simpa using made
    by_cases stopped : s.level = .stop
    · obtain ⟨waits, current, -, mode, -⟩ :=
        State.raise2_waits (s := u) (c := .profileBad) (BitVec.ofNat 12 param) (by rwa [level])
      rw [stamp] at waits
      have hold : (u.raise2 .profileBad (BitVec.ofNat 12 param)).ptr = s.ptr := by
        rw [State.raise2_in_stop _ _ (by rwa [level])]
        exact ptr
      refine ⟨by rw [mode, mdc], by rw [mode, mdc]; exact unread, table, ?_, by rw [hold],
        fun _ moving => absurd stopped moving, fun _ => ⟨waits, by rw [current, alc]⟩⟩
      rw [State.number, mode, mdc]
      simp [unread]
    · obtain ⟨current, mode, saved, -⟩ :=
        State.raise2_enters (s := u) (c := .profileBad) rfl (BitVec.ofNat 12 param) (by rwa [level])
      have hold := (u.enterStop_blocks .profileBad (BitVec.ofNat 12 param)).2.2.2.2.1
      have policy : u.policy (·.holdOnStop) = false := by simp [State.policy, mdc, unread]
      rw [← State.raise2_of_not_stop _ _ (by rwa [level]), ptr, policy, Bool.or_false] at hold
      refine ⟨by rw [mode, mdc], by rw [mode, mdc]; exact unread, table, ?_, hold, fun start _ => ?_,
        fun stop => absurd stop stopped⟩
      · rw [State.number, mode, mdc]
        simp [unread]
      · rw [current, mode, saved, stamp, mdc]
        exact ⟨rfl, rfl, congrArg some start⟩

/-! ## The station's own number heard -/

theorem State.frameEnd_level : s.frameEnd.level = s.level := State.level_congr (by simp)

theorem State.frameEnd_stamp : s.frameEnd.stamp = s.stamp := State.stamp_congr (by simp)

/-- DUPLICATE raised on a state that differs at the bus interface and the records alone (R160). -/
theorem State.raise2_duplicate {u : State} (n : StationNo) (level : u.level = .stop ↔ s.level = .stop)
    (stamp : u.stamp = s.stamp) (mdc : u.mdc = s.mdc) (drc : u.drc = s.drc) (crm : u.crm = s.crm)
    (ptr : u.ptr = s.ptr) :
    (u.raise2 .duplicate (numberParam n)).drc.falling = s.drc.falling ∧
      (u.raise2 .duplicate (numberParam n)).crm.cradleA.stack = s.crm.cradleA.stack ∧
      (u.raise2 .duplicate (numberParam n)).crm.cradleB.stack = s.crm.cradleB.stack ∧
      (u.raise2 .duplicate (numberParam n)).ptr.p = s.ptr.p ∧
      (u.raise2 .duplicate (numberParam n)).ptr.h = s.ptr.h ∧
      (s.level ≠ .stop → (u.raise2 .duplicate (numberParam n)).mdc.mode = .stopped ∧
        (u.raise2 .duplicate (numberParam n)).alc.current =
          some ⟨.duplicate, BitVec.ofNat 12 n.val, s.stamp⟩ ∧
        (u.raise2 .duplicate (numberParam n)).drc.claims = []) ∧
      (s.level = .stop → ⟨.duplicate, BitVec.ofNat 12 n.val, s.stamp⟩ ∈
        (u.raise2 .duplicate (numberParam n)).alc.pend2 ∧
        (u.raise2 .duplicate (numberParam n)).mdc = s.mdc) := by
  obtain ⟨falling, piles, p, h, -⟩ := u.raise2_leaves .duplicate (numberParam n)
  have stackA := piles .a
  have stackB := piles .b
  simp only [State.cradle, crm] at stackA stackB
  refine ⟨falling.trans (by rw [drc]), stackA, stackB, p.trans (by rw [ptr]), h.trans (by rw [ptr]),
    fun moving => ?_, fun stopped => ?_⟩
  · obtain ⟨current, mode, -, drops⟩ :=
      State.raise2_enters (s := u) (c := .duplicate) rfl (numberParam n) (mt level.mp moving)
    rw [current, mode, drops, stamp]
    exact ⟨rfl, rfl, rfl⟩
  · obtain ⟨waits, -, -, mode, -⟩ :=
      State.raise2_waits (s := u) (c := .duplicate) (numberParam n) (level.mpr stopped)
    rw [stamp] at waits
    exact ⟨waits, mode.trans mdc⟩

/-- A record taken in is current or pending at level 1 (R118). -/
theorem AlertController.attend_self (x : AlertController) (r : Record) :
    (x.attend r).current = some r ∨ r ∈ (x.attend r).pend1 := by
  cases h : x.current with
  | none => simp [AlertController.attend_of_none h]
  | some q => simp [AlertController.attend_of_some h, mem_putRecord_self]

/-- A NOTICE-LOST record stands after a level-2 cause too, the lost flag being set (R121, R150). -/
theorem State.raise2_of_lost {c : Cause} (stop : c.isStop = true) (param : BitVec 12)
    (full : 8 ≤ s.lbi.notices.length) (lost : s.lbi.lost = true) :
    (s.raise2 c param).lbi.notices = s.lbi.notices ∧ (s.raise2 c param).lbi.lost = true ∧
      ∀ r, s.alc.current = some r ∨ r ∈ s.alc.pend1 → r.cause = .noticeLost →
        r ∈ (s.raise2 c param).standing := by
  by_cases stopped : s.level = .stop
  · rw [State.raise2_in_stop c param stopped]
    refine ⟨rfl, lost, fun r m _ => ?_⟩
    rw [State.standing_eq, AlertController.mem_standing]
    exact m.imp id fun m => .inr (.inl m)
  · rw [State.raise2_of_not_stop c param stopped]
    generalize set_ : s.setAlc { s.alc with saved := s.alc.current, current := some ⟨c, param, s.stamp⟩ } = u
    have record : s.recordStop c param = u.queueAlert := by rw [← set_]; rfl
    have lbiU : u.lbi = s.lbi := by rw [← set_]; rfl
    obtain ⟨alc, flag⟩ := State.queueAlert_of_lost (s := u) (by rw [lbiU]; exact lost)
    have notices : u.queueAlert.lbi.notices = u.lbi.notices := State.queueAlert_notices (by rwa [lbiU])
    rw [State.enterStop_lbi stop, State.stopping_lbi, record]
    refine ⟨by rw [← lbiU]; exact notices, flag, fun r m cause => ?_⟩
    have stays : r ∈ (s.stopping c param).standing := by
      rw [State.standing_eq, State.stopping_alc, record, alc, ← set_, AlertController.mem_standing]
      exact .inr (m.imp id .inl)
    rw [State.standing_eq, State.enterStop_alc stop]
    split
    · exact (AlertController.mem_standing_drop_of_ne (by rw [cause]; decide)).mpr stays
    · exact stays

/-- Settles O46. -/
theorem ownNumberHeardIsDuplicate : Obligations.OwnNumberHeardIsDuplicate := by
  intro s n run receiving number
  have mine : s.frameEnd.number = some n := State.frameEnd_number.trans number
  have notices : s.frameEnd.lbi.notices = s.lbi.notices := by rw [State.frameEnd_lbi]; rfl
  have flag : s.frameEnd.lbi.lost = s.lbi.lost := by rw [State.frameEnd_lbi]; rfl
  have joinHeard : s.frameEnd.joinHeard n =
      (s.frameEnd.joinNotice .conflict).raise2 .duplicate (numberParam n) := if_pos mine
  have conflictHeard : s.frameEnd.conflictHeard n = s.frameEnd.raise2 .duplicate (numberParam n) := if_pos mine
  refine ⟨⟨_, by rw [exec_joinReceived_eq, running_of_receiving _ run receiving], ?_⟩,
    ⟨_, by rw [exec_conflictReceived_eq, running_of_receiving _ run receiving], ?_⟩⟩
  · rw [joinHeard]
    have level : (s.frameEnd.joinNotice .conflict).level = .stop ↔ s.level = .stop :=
      (AlertController.MayLose.level (s.frameEnd.joinNotice_mayLose .conflict)).trans (by rw [State.frameEnd_level])
    obtain ⟨grows, -⟩ := State.raise2_grows (c := .duplicate) rfl (s.frameEnd.joinNotice .conflict) (numberParam n)
    refine ⟨fun room => ?_, fun full => ?_, State.raise2_duplicate n level (State.stamp_congr (by simp)) (by simp)
      (by simp) (by simp) (by simp)⟩
    · refine grows.getElem? ?_
      rw [State.joinNotice_of_room _ (by rwa [notices])]
      simp [notices]
    · have discard := State.joinNotice_of_full (s := s.frameEnd) .conflict (by rwa [notices])
      rw [discard]
      have queue : s.frameEnd.discardNotice.lbi.notices = s.lbi.notices :=
        (State.discardNotice_notices (by rwa [notices])).trans notices
      obtain ⟨same, lost, stands⟩ := State.raise2_of_lost (s := s.frameEnd.discardNotice) (c := .duplicate) rfl
        (numberParam n) (by rwa [queue]) (State.discardNotice_lost _)
      refine ⟨same.trans queue, lost, fun clear => stands _ ?_ rfl⟩
      rw [State.discardNotice_alc, if_neg (by simp [flag, clear]), State.frameEnd_stamp]
      exact AlertController.attend_self _ _
  · rw [conflictHeard]
    refine ⟨fun m mem => ?_, State.raise2_duplicate n (by rw [State.frameEnd_level]) State.frameEnd_stamp (by simp)
      (by simp) (by simp) (by simp)⟩
    rw [← notices]
    by_cases stopped : s.frameEnd.level = .stop
    · rw [(State.raise2_waits (numberParam n) stopped).2.2.2.2.2.2] at mem
      exact .inl mem
    · rw [State.raise2_of_not_stop _ _ stopped, State.enterStop_lbi rfl, State.stopping_lbi] at mem
      exact State.queueAlert_only (s.frameEnd.setAlc { s.frameEnd.alc with
        saved := s.frameEnd.alc.current, current := some ⟨.duplicate, numberParam n, s.frameEnd.stamp⟩ }) m mem

end Sys2Proof.Machine
end

section
/-! The profile image and its acceptance (R17 to R19, R155 to R158, R172, R180), the join timer (R159), and the modes
the panel asks for (R162 to R164). -/

namespace Sys2Proof.Machine

variable {s : State}

/-! ## An image without fault -/

theorem firstFault_eq_none_iff {faults : List (Bool × Nat)} :
    firstFault faults = none ↔ ∀ f ∈ faults, f.1 = false := by
  simp [firstFault]

/-- What an image that passes the checks has in its head (R157). -/
theorem imageFaults_head {img : List Byte} (none_ : ∀ f ∈ imageFaults img, f.1 = false) :
    (imageCheck img).toNat = wordAt img 62 ∧ byteAt img 0 = 1 ∧ byteAt img 1 ≤ 63 ∧
      (4 ≤ wordAt img 2 ∧ wordAt img 2 ≤ 2000) ∧ (wordAt img 2 ≤ wordAt img 4 ∧ wordAt img 4 ≤ 2000) ∧
      1 ≤ recipeCountAt img ∧ recipeCountAt img ≤ 4 := by
  have head : ∀ f ∈ (imageFaults img).take 6, f.1 = false := fun f m => none_ f (List.mem_of_mem_take m)
  simp [imageFaults] at head
  obtain ⟨check, version, number, distance, span, count⟩ := head
  omega

/-- What a recipe record of an image that passes the checks has (R157). -/
theorem imageFaults_recipe {img : List Byte} (none_ : ∀ f ∈ imageFaults img, f.1 = false) {i : Nat}
    (less : i < recipeCountAt img) : ∀ f ∈ recipeFaults img i, f.1 = false := fun f m =>
  none_ f (by
    simp only [imageFaults, List.mem_append, List.mem_flatMap, List.mem_range]
    exact .inr ⟨i, less, m⟩)

/-- A limit without fault, translated (R18, R19). -/
theorem limitAt_low (img : List Byte) (i : Nat) :
    (limitAt img i).low = (if 32768 ≤ wordAt img i then 10 * (wordAt img i - 32768) else wordAt img i) ∧
      (limitAt img i).high =
        (if 32768 ≤ wordAt img i then 10 * (wordAt img i - 32768) + 9 else wordAt img i) := by
  have bound : wordAt img i < 65536 := by
    have first : byteAt img i < 256 := (img.getD i 0).isLt
    have second : byteAt img (i + 1) < 256 := (img.getD (i + 1) 0).isLt
    rw [wordAt]
    omega
  by_cases coarse : 32768 ≤ wordAt img i
  · simp only [limitAt, Limit.low, Limit.high, coarse, decide_true, if_true]
    omega
  · simp only [limitAt, Limit.low, Limit.high, coarse, decide_false, Bool.false_eq_true, if_false]
    omega

theorem limitAt_range {img : List Byte} {i : Nat} (fine : (limitAt img i).fineFault = false)
    (coarse : (limitAt img i).coarseFault = false) :
    (limitAt img i).low ≤ 2047 ∧ 1 ≤ (limitAt img i).high ∧ (limitAt img i).high ≤ 2049 := by
  simp only [Limit.fineFault, Limit.coarseFault, Limit.low, Limit.high] at fine coarse ⊢
  cases kind : (limitAt img i).coarse <;> simp [kind] at fine coarse ⊢ <;> omega

theorem clamp_eq (low high v : Nat) : clamp low high v = if v < low then low else if high < v then high else v := rfl

theorem clamp_range {low high : Nat} (le : low ≤ high) (v : Nat) : low ≤ clamp low high v ∧ clamp low high v ≤ high := by
  unfold clamp
  (repeat' split) <;> omega

/-- Settles O42. -/
theorem acceptedImageIsInRange : Obligations.AcceptedImageIsInRange := by
  intro img ok f rs
  have none_ := firstFault_eq_none_iff.mp ok
  obtain ⟨check, version, number, ⟨d4, d2000⟩, ⟨spanLow, spanHigh⟩, count1, count4⟩ := imageFaults_head none_
  have tmin : 10 ≤ tminOf img ∧ tminOf img ≤ 100 := clamp_range (by omega) _
  have tmax := clamp_range (low := tminOf img + 20) (high := 300) (by omega) (wordAt img 9)
  have removal := clamp_range (low := 10) (high := 600) (by omega) (wordAt img 11)
  have length : rs.length = byteAt img 6 := by simp [rs, recipesOf, recipeCountAt]
  refine ⟨check, version, Nat.mod_eq_of_lt (by omega), rfl, d4, d2000, rfl, spanLow, spanHigh, rfl, rfl, rfl, rfl,
    rfl, rfl, tmin.1, tmin.2, tmax.1, tmax.2, removal.1, removal.2, length, by rw [length]; exact count1,
    by rw [length]; exact count4, fun i r at_ => ?_⟩
  obtain ⟨less, rfl⟩ : i < recipeCountAt img ∧ recipeAt img i = r := by
    simpa [rs, recipesOf, List.getElem?_map, List.getElem?_range, Option.map_eq_some_iff,
      List.getElem?_eq_some_iff] using at_
  have faults := imageFaults_recipe none_ less
  simp only [recipeFaults, List.forall_mem_cons] at faults
  obtain ⟨fineLow, fineHigh, coarseLow, coarseHigh, band, n, spread, quota, -⟩ := faults
  obtain ⟨low2047, -⟩ := limitAt_range fineLow coarseLow
  obtain ⟨-, high1, high2049⟩ := limitAt_range fineHigh coarseHigh
  have lowEq := (limitAt_low img (recordOffset i)).1
  have highEq := (limitAt_low img (recordOffset i + 2)).2
  have byte : byteAt img (recordOffset i + 7) < 256 := (img.getD _ 0).isLt
  have n60 : 1 ≤ byteAt img (recordOffset i + 6) ∧ byteAt img (recordOffset i + 6) ≤ 60 := by
    have plain : (byteAt img (recordOffset i + 6) == 0 || decide (60 < byteAt img (recordOffset i + 6))) = false := n
    simpa [Nat.one_le_iff_ne_zero] using plain
  have s250 : byteAt img (recordOffset i + 7) ≤ 250 ∨ byteAt img (recordOffset i + 7) = 255 := by
    have plain : (decide (251 ≤ byteAt img (recordOffset i + 7)) &&
        decide (byteAt img (recordOffset i + 7) ≤ 254)) = false := spread
    simp at plain
    omega
  have offset : 14 + 12 * i = recordOffset i ∧ 16 + 12 * i = recordOffset i + 2 ∧ 18 + 12 * i = recordOffset i + 4 ∧
      19 + 12 * i = recordOffset i + 5 ∧ 20 + 12 * i = recordOffset i + 6 ∧ 21 + 12 * i = recordOffset i + 7 ∧
      22 + 12 * i = recordOffset i + 8 := by
    unfold recordOffset
    omega
  obtain ⟨o0, o2, o4, o5, o6, o7, o8⟩ := offset
  rw [o0, o2, o4, o5, o6, o7, o8]
  refine ⟨lowEq, highEq, low2047, high1, high2049, Nat.not_lt.mp (of_decide_eq_false band), fun g less8 => ?_, rfl, rfl,
    rfl, rfl, n60.1, n60.2, rfl, s250, rfl, Nat.not_lt.mp (of_decide_eq_false quota), rfl, rfl, rfl⟩
  rw [recipeAt, BitVec.getLsbD_ofNat, decide_eq_true less8, Bool.true_and]

/-! ## Acceptance -/

/-- The station takes a profile over: the values are held, the JOIN waits (R158, R172). -/
def State.takeProfile (s : State) (img : List Byte) : State :=
  ((((s.setMdc { s.mdc with profileRead := .done, profile := some (profileOf img) }).setRct
    (recipesOf img)).joinNotice (.join (joinFieldsOf (profileOf img) (recipesOf img)))).setMdc
      { s.mdc with profileRead := .done, profile := some (profileOf img), joinTimer := .waiting })

theorem State.acceptProfile_eq (s : State) (img : List Byte) :
    s.acceptProfile img = (s.takeProfile img).enterJoining.settle := by
  unfold State.acceptProfile State.takeProfile
  simp

/-- Settles O43. -/
theorem goodProfileIsAccepted : Obligations.GoodProfileIsAccepted := by
  intro s img more run reading length ok start unblocked room
  refine ⟨_, by rw [exec_profileReadEnd_eq, running_of_running _ run], ?_⟩
  have memory := SerialMemory.read_image img more length
  have accepted : s.profileReadEnd ⟨0b1010011, img.map some ++ more⟩ = s.acceptProfile img := by
    rw [State.profileReadEnd, if_pos reading, memory, ok]
  generalize taken : s.takeProfile img = u
  have mdc : u.mdc = { s.mdc with profileRead := .done, profile := some (profileOf img), joinTimer := .waiting } := by
    rw [← taken]
    rfl
  have lbi : u.lbi = { s.lbi with
      notices := s.lbi.notices ++ [.join (joinFieldsOf (profileOf img) (recipesOf img))] } := by
    rw [← taken, State.takeProfile, State.joinNotice_of_room _ (by simpa using room)]
    rfl
  have frame : u.rct = recipesOf img ∧ u.drc = s.drc ∧ u.crm = s.crm ∧ u.ptr = s.ptr := by
    simp [← taken, State.takeProfile]
  obtain ⟨rct, drc, crm, ptr⟩ := frame
  have alc : u.alc = s.alc := by
    rw [← taken, State.takeProfile, State.joinNotice_of_room _ (by simpa using room)]
    rfl
  have joins : u.enterJoining = u.changeMode .joining := by
    rw [State.enterJoining, mdc]
    simp [start]
  have settled : (u.changeMode .joining).settle = u.changeMode .joining := by
    refine State.settle_of_steady ?_ ?_
    · simp [State.blockedNow, crm, unblocked]
    · simp [State.idleNow]
  obtain ⟨-, -, queue⟩ := u.changeMode_of_ends (m := .joining) rfl
  rw [accepted, State.acceptProfile_eq, taken, joins, settled]
  refine ⟨by simp [mdc], by simp [rct], by simp [State.number, mdc, profileOf], ?_, by simp [drc], by simp [crm],
    by simp [alc], by simp [ptr]⟩
  rw [queue, lbi]
  simp [joinFieldsOf, profileOf, bitAt, recipesOf, recipeCountAt]

/-! ## Modes -/

/-- What the end of an event leaves of the blocks that neither test writes (R78, R162). -/
theorem State.settle_leaves (s : State) :
    s.settle.drc = s.drc ∧ s.settle.rct = s.rct ∧ s.settle.ptr.p = s.ptr.p ∧ s.settle.ptr.h = s.ptr.h ∧
      s.settle.crm.cradleA = s.crm.cradleA ∧ s.settle.crm.cradleB = s.crm.cradleB := by
  obtain ⟨p, h⟩ := s.settle_tags
  exact ⟨by simp, by simp, p, h, s.settle_cradle .a, s.settle_cradle .b⟩

/-- A change to ACTIVE or DRAINING with the tests made on entry (R162, R163). -/
theorem State.enterMode_does {m : Mode} (bids : m.bids = true) (s : State) :
    let idle := s.someBuilding = false ∧ (m = .active ∧ allExhausted s.rct = true ∨ m = .draining)
    (s.changeMode m).settle.mdc = { s.mdc with mode := if idle then .idle else m } ∧
      (¬ idle → (s.changeMode m).settle.clu = s.clu) ∧
      (s.changeMode m).settle.rol = (if idle then (s.reofferAll s.wonStems).rol else s.rol) ∧
      (s.changeMode m).settle.alc.refuse = s.alc.refuse ∧ (s.changeMode m).settle.drc = s.drc ∧
      (s.changeMode m).settle.rct = s.rct ∧ (s.changeMode m).settle.ptr.p = s.ptr.p ∧
      (s.changeMode m).settle.ptr.h = s.ptr.h ∧ (s.changeMode m).settle.crm.cradleA = s.crm.cradleA ∧
      (s.changeMode m).settle.crm.cradleB = s.crm.cradleB ∧ (s.changeMode m).settle.now = s.now := by
  intro idle
  have iff : (s.putMode m).idleNow = true ↔ idle := by
    rw [State.idleNow_iff, State.someBuilding_congr (s := s) (by simp)]
    simp [idle]
  have won : (s.putMode m).wonStems = s.wonStems := State.wonStems_congr (by simp)
  rw [s.changeMode_of_bids bids]
  obtain ⟨drc, rct, p, h, a, b⟩ := (s.putMode m).settle_leaves
  refine ⟨?_, fun busy => ?_, ?_, by simp, by simp, by simp, by simp, by simp, by simpa using a,
    by simpa using b, by simp⟩
  · simp only [State.settle_mdc, iff, State.putMode_mdc]
  · rw [State.settle_clu, if_neg (mt iff.mp busy)]
    simp
  · simp only [State.settle_rol, iff, won, State.putMode_frame]
    split
    · exact State.reofferAll_rol_congr _ (by simp) (by simp) (by simp)
    · rfl

/-- Settles O45. -/
theorem joinTimerEndsJoining : Obligations.JoinTimerEndsJoining := by
  intro s since run timer
  generalize done : (s.setNow (max s.now (since + 100000))).setMdc { s.mdc with joinTimer := .stopped } = u
  have mdc : u.mdc = { s.mdc with joinTimer := .stopped } := by rw [← done]; rfl
  have ends : s.joinTimerEnd = if u.mdc.mode = .joining then (u.changeMode .active).settle
      else if u.mdc.mode = .stopped ∧ u.alc.savedMode = some .joining then
        u.setAlc { u.alc with savedMode := some .active }
      else u := by
    rw [← done, State.joinTimerEnd, timer] <;> rfl
  refine ⟨fun joining => ⟨_, by rw [exec_joinTimerEnd_eq, running_of_running _ run], ?_⟩,
    fun stopped saved => ?_⟩
  · rw [ends, if_pos (by rw [mdc]; exact joining)]
    obtain ⟨mode, -, -, -, drc, rct, p, h, a, b, now⟩ := State.enterMode_does (m := .active) rfl u
    have building : u.someBuilding = s.someBuilding := State.someBuilding_congr (by rw [← done]; rfl)
    have table : u.rct = s.rct := by rw [← done]; rfl
    refine ⟨?_, now.trans (by rw [← done]; rfl), drc.trans (by rw [← done]; rfl), rct.trans table,
      p.trans (by rw [← done]; rfl), h.trans (by rw [← done]; rfl), a.trans (by rw [← done]; rfl),
      b.trans (by rw [← done]; rfl)⟩
    rw [mode, mdc, building, table]
    simp [and_comm]
  · rw [exec_joinTimerEnd_eq, running_of_running _ run, ends, if_neg (by rw [mdc]; simp [stopped]),
      if_pos ⟨by rw [mdc]; exact stopped, by rw [← done]; exact saved⟩, ← done]
    rfl

/-- Settles O60. -/
theorem drainAndResumeMoveTheMode : Obligations.DrainAndResumeMoveTheMode := by
  intro s run
  refine ⟨fun free active => ⟨_, by rw [exec_drain_eq, request_of_free _ _ run free], ?_⟩,
    fun free may => ⟨_, by rw [exec_resume_eq, request_of_free _ _ run free], ?_⟩⟩
  · rw [State.drain, if_pos active]
    obtain ⟨mode, clu, rol, refuse, drc, rct, p, h, a, b, -⟩ := State.enterMode_does (m := .draining) rfl s
    refine ⟨?_, fun building => clu (by simp [building]), ?_, refuse, drc, rct, p, h, a, b⟩
    · rw [mode]
      cases s.someBuilding <;> simp
    · rw [rol, mode]
      cases s.someBuilding <;> simp
  · have resumes : s.mayResume = true := by simpa [State.mayResume, someCanBind] using may
    rw [State.resume, if_pos resumes]
    obtain ⟨mode, -, rol, refuse, drc, rct, p, h, a, b, -⟩ := State.enterMode_does (m := .active) rfl s
    have idle : (s.someBuilding = false ∧
        (Mode.active = .active ∧ allExhausted s.rct = true ∨ Mode.active = .draining)) ↔
        s.someBuilding = false ∧ s.rct ≠ [] ∧ s.rct.all (·.exhausted) = true := by
      simp [allExhausted]
    rw [if_congr idle rfl rfl] at mode rol
    refine ⟨mode, ?_, refuse, drc, rct, p, h, a, b⟩
    rw [rol, mode]
    by_cases spent : s.someBuilding = false ∧ s.rct ≠ [] ∧ s.rct.all (·.exhausted) = true
    · simp only [if_pos spent, if_true]
    · simp only [if_neg spent, reduceCtorEq, if_false]

end Sys2Proof.Machine
end

section
/-! The station panel (R60, R69, R75, R123 to R127, R132, R163, R164) and what ends with its time (R71, R85, R87, R88,
R132). -/

namespace Sys2Proof.Machine

variable {s : State}

/-! ## The requests that are refused -/

theorem CradleRec.building_iff (r : CradleRec) : r.building = true ↔ r.state = .filling ∨ r.state = .closing := by
  simp [CradleRec.building]

theorem CradleRec.mayPull_iff (r : CradleRec) : r.mayPull = true ↔ r.building = true ∧ r.stack ≠ [] := by
  simp [CradleRec.mayPull]

theorem State.mayFinish_iff (s : State) (c : Cradle) (key : Bool) : s.mayFinish c key = true ↔
    key = true ∧ (s.cradle c).building = true ∧ (s.cradle c).stack ≠ [] ∧
      ∀ f ∈ s.drc.falling, f.claim.cradle ≠ c := by
  simp [State.mayFinish, and_assoc]

theorem State.stuckBeamBlocked_of {r : Record} {c : Cradle} (param : r.param = cradleParam c) :
    s.stuckBeamBlocked r = (s.beam c).blocked := by
  cases c <;> simp [State.stuckBeamBlocked, param, cradleParam, cradleCode, State.beam]

/-- The records CLEAR refuses (R126, R127). -/
theorem State.clear_refused {r : Record} {key : Bool} {c : Cradle} (current : s.alc.current = some r)
    (may : r.cause = .staleCradle ∨ r.cause = .blocked ∨ r.cause = .gaugeSilent ∨
      r.cause.isStop = true ∧ key = false ∨ r.cause = .duplicate ∨ r.cause = .profileBad ∨
      r.cause = .gateStuck ∧ r.param = cradleParam c ∧ (s.beam c).blocked = true) :
    s.clear key = s.refusePulse := by
  have stops : ∀ {x : Cause}, r.cause = x → x.isStop = true → s.mayClearStop r = false → s.clear key = s.refusePulse := by
    intro x cause stop may
    rw [State.clear, current]
    simp [cause, stop, may]
  have conditions : ∀ {x : Cause}, r.cause = x → x.isStop = false → x.isCondition = true →
      s.clear key = s.refusePulse := by
    intro x cause stop condition
    rw [State.clear, current]
    simp [cause, stop, condition]
  rcases may with cause | cause | cause | ⟨stop, off⟩ | cause | cause | ⟨cause, param, blocked⟩
  · exact conditions cause rfl rfl
  · exact conditions cause rfl rfl
  · exact conditions cause rfl rfl
  · rw [State.clear, current]
    simp [stop, off]
  · exact stops cause rfl (by simp [State.mayClearStop, cause])
  · exact stops cause rfl (by simp [State.mayClearStop, cause])
  · exact stops cause rfl (by simp [State.mayClearStop, cause, State.stuckBeamBlocked_of param, blocked])

/-- Settles O56: a held button makes no request, and a request that fails its test only pulses REFUSE. -/
theorem refusedRequestsOnlyPulseRefuse : Obligations.RefusedRequestsOnlyPulseRefuse := by
  intro s c key run refused building held
  refine ⟨fun yes => by rw [exec_pull_eq, request_of_held _ _ yes], fun yes => by rw [exec_finish_eq, request_of_held _ _ yes],
    fun yes => by rw [exec_clear_eq, request_of_held _ _ yes], fun yes => by rw [exec_cancel_eq, request_of_held _ _ yes],
    fun yes => by rw [exec_drain_eq, request_of_held _ _ yes], fun yes => by rw [exec_resume_eq, request_of_held _ _ yes],
    fun free no => ?pull, fun free no => ?finish, fun free none => ?noRecord,
    fun free r current may => ?clear, fun free mode => ?drain, fun free draining idle => ?resume⟩
  case pull =>
    rw [exec_pull_eq, request_of_free _ _ run (Bool.eq_false_iff.mpr free), State.pull, if_neg]
    · rfl
    · rw [CradleRec.mayPull_iff, CradleRec.building_iff]
      exact fun ⟨yes, stack⟩ => no.elim (· yes) stack
  case finish =>
    rw [exec_finish_eq, request_of_free _ _ run (Bool.eq_false_iff.mpr free), State.finish, if_neg]
    · rfl
    · rw [State.mayFinish_iff, CradleRec.building_iff]
      rintro ⟨on, yes, stack, none⟩
      rcases no with off | no | empty | ⟨f, mem, cradle⟩
      · exact Bool.false_ne_true (off.symm.trans on)
      · exact no yes
      · exact stack empty
      · exact none f mem cradle
  case noRecord =>
    rw [exec_clear_eq, request_of_free _ _ run (Bool.eq_false_iff.mpr free), State.clear, none]
    rfl
  case clear =>
    rw [exec_clear_eq, request_of_free _ _ run (Bool.eq_false_iff.mpr free), State.clear_refused current may]
    rfl
  case drain =>
    rw [exec_drain_eq, request_of_free _ _ run (Bool.eq_false_iff.mpr free), State.drain, if_neg mode]
    rfl
  case resume =>
    have no : s.mayResume = false := by
      rcases idle with idle | spent
      · simp [State.mayResume, draining, idle]
      · simp [State.mayResume, draining, someCanBind, spent]
    rw [exec_resume_eq, request_of_free _ _ run (Bool.eq_false_iff.mpr free), State.resume, no]
    rfl

/-! ## CLEAR -/

/-- Settles O57. -/
theorem clearRetiresAnEventRecord : Obligations.ClearRetiresAnEventRecord := by
  intro s r key run free current level1 event room
  have retired : s.clear key = (s.setAlc s.alc.retire).queueAlert := by
    rw [State.clear, current]
    simp only [level1, event, Bool.false_eq_true, if_false]
    rfl
  refine ⟨_, by rw [exec_clear_eq, request_of_free _ _ run free, retired], ?_,
    State.queueAlert_mem (s := s.setAlc s.alc.retire) room, fun waits => ?_, fun absent => ?_, by simp, by simp, by simp,
    by simp, by simp, by simp, by simp⟩ <;>
    rw [State.queueAlert_of_room (s := s.setAlc s.alc.retire) room]
  · (repeat' split) <;> rfl
  · rw [if_pos (by exact waits)]
    cases driven : s.drivingAlert <;> simp [driven]
  · rw [if_neg (by exact absent)]
    rfl

/-- BLOCKED not standing: it is raised or nothing changes (R78). -/
theorem State.reviewBlocked_of_open (free : s.crm.blocked = false) :
    s.reviewBlocked = if s.blockedNow then
      ((s.setCrm { s.crm with blocked := true }).raise1 .blocked 0).setHoldBlocked (s.policy (·.holdWhenBlocked))
    else s := by
  unfold State.reviewBlocked
  cases now : s.blockedNow <;> simp [free]

/-- With a record current and BLOCKED not standing, the end of an event leaves the records but the level-1 set
(R118). -/
theorem State.settle_alc_of_open (free : s.crm.blocked = false) :
    s.settle.alc.saved = s.alc.saved ∧
      (s.alc.current ≠ none → s.settle.alc.current = s.alc.current) := by
  rw [State.settle, State.reviewBlocked_of_open (by simpa using free)]
  split
  · simp only [State.setHoldBlocked_frame, State.raise1_alc_frame, State.setCrm_alc, State.reviewIdle_frame]
    refine ⟨trivial, fun some_ => ?_⟩
    obtain ⟨r, current⟩ := Option.ne_none_iff_exists'.mp some_
    rw [State.raise1_of_current (r := r) _ _ (by simpa using current)]
    simp
  · simp

/-- A change of mode stops a frame at most, and queues nothing (R45). -/
theorem State.changeMode_notices (s : State) (m : Mode) : (s.changeMode m).lbi.notices = s.lbi.notices := by
  cases bids : m.bids
  · rw [(s.changeMode_of_ends bids).2.2]
  · simp [s.changeMode_of_bids bids]

/-- The next level-2 code becomes current, and STOP goes on (R123). -/
theorem State.clear_next {r next : Record} {more : List Record} (current : s.alc.current = some r)
    (may : r.cause.isStop = true ∧ s.mayClearStop r = true) (pend2 : s.alc.pend2 = next :: more) :
    s.clear true = (s.setAlc { s.alc with current := some next, pend2 := more }).queueAlert := by
  rw [State.clear, current]
  simp only [may, Bool.and_self, if_true]
  rw [State.retire2, pend2]

theorem State.clear_last {r : Record} (current : s.alc.current = some r)
    (may : r.cause.isStop = true ∧ s.mayClearStop r = true) (pend2 : s.alc.pend2 = []) :
    s.clear true = s.endStop := by
  rw [State.clear, current]
  simp only [may, Bool.and_self, if_true]
  rw [State.retire2, pend2]

/-- The level-2 records the operator may clear (R127). -/
theorem State.mayClearStop_of {r : Record} (may : r.cause = .missRun ∨ r.cause = .busFault ∨
      r.cause = .gateStuck ∧ (∀ c, r.param = cradleParam c → (s.beam c).blocked = false) ∧
        (∃ c, r.param = cradleParam c)) :
    r.cause.isStop = true ∧ s.mayClearStop r = true := by
  rcases may with cause | cause | ⟨cause, clear, c, param⟩
  · simp [State.mayClearStop, cause, Cause.isStop, Cause.code]
  · simp [State.mayClearStop, cause, Cause.isStop, Cause.code]
  · simp [State.mayClearStop, cause, Cause.isStop, Cause.code, State.stuckBeamBlocked_of param, clear c param]

/-- Settles O58. -/
theorem clearWithTheKeyInStop : Obligations.ClearWithTheKeyInStop := by
  intro s r m run free current may saved ne stopped room
  have may := State.mayClearStop_of may
  refine ⟨fun next more pend2 => ⟨_, by rw [exec_clear_eq, request_of_free _ _ run free, State.clear_next current may pend2],
    ?next⟩, fun pend2 open_ => ⟨_, by rw [exec_clear_eq, request_of_free _ _ run free, State.clear_last current may pend2],
    ?last⟩⟩
  case next =>
    have alert := State.queueAlert_mem (s := s.setAlc { s.alc with current := some next, pend2 := more }) room
    refine ⟨?_, by simp, by simp, by simp, by simp, by simp, by simp, by simp, alert⟩
    rw [State.queueAlert_of_room (s := s.setAlc { s.alc with current := some next, pend2 := more }) room]
    (repeat' split) <;> rfl
  case last =>
    rw [State.endStop_eq]
    generalize follows : (s.setAlc s.alc.resume).queueAlert = u
    have alert : .alert ∈ u.lbi.notices := by
      rw [← follows]
      exact State.queueAlert_mem (s := s.setAlc s.alc.resume) room
    have returns : u.returnMode.forgetMode = (u.changeMode m).forgetMode := by
      rw [State.returnMode, ← follows]
      simp [s.alc.resume_frame, saved]
    have records : u.alc.saved = none ∧ u.alc.refuse = s.alc.refuse := by
      rw [← follows]
      simp [s.alc.resume_frame]
    have continues : ∀ q, s.alc.resume.current = some q → u.alc.current = some q := fun q resumed => by
      rw [← follows]
      exact State.queueAlert_current (s := s.setAlc s.alc.resume) resumed
    have same : u.crm = s.crm ∧ u.drc = s.drc ∧ u.rct = s.rct ∧ u.mdc = s.mdc ∧ u.ptr.p = s.ptr.p ∧ u.ptr.h = s.ptr.h := by
      rw [← follows]
      simp
    obtain ⟨crm, drc, rct, mdc, p, h⟩ := same
    rw [returns]
    generalize ended : (u.changeMode m).forgetMode = v
    have alc : v.alc = { u.alc with savedMode := none } := by rw [← ended]; simp [State.forgetMode]
    have blocks : v.crm = s.crm ∧ v.drc = s.drc ∧ v.rct = s.rct ∧ v.mdc = { s.mdc with mode := m } ∧
        v.ptr.p = s.ptr.p ∧ v.ptr.h = s.ptr.h ∧ v.lbi.notices = u.lbi.notices := by
      rw [← ended]
      simp [State.forgetMode, crm, drc, rct, mdc, p, h, u.changeMode_notices]
    obtain ⟨crm', drc', rct', mdc', p', h', notices⟩ := blocks
    obtain ⟨keepsSaved, keepsCurrent⟩ := State.settle_alc_of_open (s := v) (by rw [crm']; exact open_)
    have unlocked : v.settle.unlock.alc = v.settle.alc ∧ v.settle.unlock.lbi = v.settle.lbi ∧
        v.settle.unlock.mdc = v.settle.mdc ∧ v.settle.unlock.ptr.holdStop = false ∧
        v.settle.unlock.crm = v.settle.crm ∧ v.settle.unlock.rct = v.settle.rct ∧
        v.settle.unlock.ptr.p = v.settle.ptr.p ∧ v.settle.unlock.ptr.h = v.settle.ptr.h ∧
        v.settle.unlock.drc = { v.settle.drc with gateLock := false, missRun := 0 } := by
      simp [State.unlock, State.setHoldStop, State.readHold_ptr]
    obtain ⟨alc1, lbi1, mdc1, hold1, crm1, rct1, p1, h1, drc1⟩ := unlocked
    have current' : ∀ q, s.alc.resume.current = some q → v.settle.unlock.alc.current = some q := fun q resumed => by
      have now := continues q resumed
      rw [alc1, keepsCurrent (by simp [alc, now]), alc]
      exact now
    refine ⟨by simp [alc1, alc], by rw [alc1, keepsSaved, alc]; exact records.1, ?mode, by simp [drc1, drc'], hold1,
      fun some_ => ?savedRecord, fun none_ pend => ?pending, ?alert, ?a, ?b, by simp [rct1, rct'], by simp [p1, p'],
      by simp [h1, h']⟩
    case mode =>
      rw [mdc1, State.settle_mdc, mdc']
      refine if_congr ?_ rfl rfl
      rw [State.idleNow_iff, State.someBuilding_congr (s := s) crm', mdc', rct']
    case savedRecord =>
      obtain ⟨q, saved⟩ := Option.ne_none_iff_exists'.mp some_
      rw [current' q (by simp [AlertController.resume, saved]), saved]
    case pending =>
      obtain ⟨q, qs, pend1⟩ := List.exists_cons_of_ne_nil pend
      rw [current' q (by simp [AlertController.resume, none_, AlertController.retire, pend1]), pend1]
      exact ⟨rfl, by simp [alc1, alc, records]⟩
    case alert =>
      rw [lbi1]
      exact v.settle_notices.subset (by rw [notices]; exact alert)
    case a => rw [crm1]; exact (v.settle_cradle .a).trans (by rw [State.cradle, crm'])
    case b => rw [crm1]; exact (v.settle_cradle .b).trans (by rw [State.cradle, crm'])

end Sys2Proof.Machine
end

section
/-! Panel requests that touch a cradle (R60, R69, R70, R75, R76), and the waits that end with their time (R71, R85,
R87, R88, R132). -/

namespace Sys2Proof.Machine

variable {s u : State}

/-! ## The end of an event, seen from where it began -/

theorem State.settle_someBuilding (s : State) : s.settle.someBuilding = s.someBuilding := by
  have a := s.settle_cradle .a
  have b := s.settle_cradle .b
  simp only [State.cradle] at a b
  rw [State.someBuilding, a, b, State.someBuilding]

/-- The mode after an event that leaves the Mode Controller to the test for IDLE (R162, R163). -/
theorem State.settle_moves (mdc : u.mdc = s.mdc) :
    u.settle.mdc = { s.mdc with mode :=
      if u.settle.someBuilding = false ∧
        (s.mdc.mode = .active ∧ allExhausted u.settle.rct = true ∨ s.mdc.mode = .draining) then .idle
      else s.mdc.mode } := by
  have rct : u.settle.rct = u.rct := by simp
  rw [State.settle_mdc, State.settle_someBuilding, rct, mdc, if_congr u.idleNow_iff rfl rfl, mdc]

/-- The Re-offer List after an event that gave up some stems: those, and the stem of a won round where the station went
to IDLE (R45). -/
theorem State.settle_gives (l : List Stem) (mdc : u.mdc = s.mdc) (clu : u.clu = s.clu) (p : u.ptr.p = s.ptr.p)
    (rol : u.rol = (s.reofferAll l).rol) :
    u.settle.rol = (s.reofferAll (l ++ if u.settle.mdc.mode = s.mdc.mode then [] else s.wonStems)).rol := by
  have won : u.wonStems = s.wonStems := State.wonStems_congr clu
  rw [State.settle_rol, State.settle_mdc, mdc, won, State.reofferAll_append]
  cases idle : u.idleNow with
  | false => simpa [State.reofferAll] using rol
  | true =>
    have moved : Mode.idle ≠ s.mdc.mode := by
      rw [← mdc]
      exact (State.mode_ne_idle_of_idleNow idle).symm
    simp only [if_true, if_neg moved]
    exact State.reofferAll_rol_congr _ (by simpa using p) (by simp [mdc]) rol

/-- The same, of an event that gave up none. -/
theorem State.settle_keeps (mdc : u.mdc = s.mdc) (clu : u.clu = s.clu) (p : u.ptr.p = s.ptr.p) (rol : u.rol = s.rol) :
    u.settle.rol = (if u.settle.mdc.mode = s.mdc.mode then s else s.reofferAll s.wonStems).rol := by
  rw [State.settle_gives [] mdc clu p rol]
  split <;> rfl

/-! ## PULL -/

/-- Settles O54. -/
theorem pullPopsTheTopStem : Obligations.PullPopsTheTopStem := by
  intro s c top under i x run free building stack recipe record
  have bound := (CradleRec.building_iff _).mpr building
  generalize popped : (s.setCradle c { s.cradle c with stack := under }).afterLoss c = u
  have pulls : s.pull c = u.settle := by
    rw [State.pull, if_pos ((CradleRec.mayPull_iff _).mpr ⟨bound, by simp [stack]⟩), stack, List.tail_cons, popped]
  refine ⟨_, by rw [exec_pull_eq, request_of_free _ _ run free, pulls], ?_⟩
  have same : u.drc = s.drc ∧ u.alc = s.alc ∧ u.ptr = s.ptr ∧ u.mdc = s.mdc ∧ u.clu = s.clu ∧ u.rol = s.rol := by
    rw [← popped]
    simp
  obtain ⟨drc, alc, ptr, mdc, clu, rol⟩ := same
  have building' : ({ s.cradle c with stack := under } : CradleRec).building = true := bound
  obtain ⟨cradle, other, -⟩ := (s.setCradle c { s.cradle c with stack := under }).afterLoss_cradle c
  have table := (s.setCradle c { s.cradle c with stack := under }).afterLoss_rct c
  rw [popped] at cradle other table
  simp only [State.setCradle_cradle, State.setCradle_other, building', if_true, true_and, CradleRec.k] at cradle other table
  refine ⟨by simp [drc], by simp [alc], by simp [ptr], by simp [ptr], (u.settle_cradle _).trans other,
    State.settle_moves mdc, State.settle_keeps mdc clu (by rw [ptr]) rol, fun some_ => ?_, fun none_ => ?_⟩
  · rw [if_neg some_] at cradle table
    refine ⟨?_, by simpa using table⟩
    rw [State.settle_cradle, cradle]
    simp [State.envelopeNow, State.committedLengths]
  · rw [if_pos none_] at cradle table
    have empty : under = [] := List.eq_nil_of_length_eq_zero (by omega)
    refine ⟨by rw [State.settle_cradle, cradle, empty], ?_⟩
    rw [recipe] at table
    simp [table, record, Recipe.unbound]

/-! ## What ends with its time -/

theorem openFirst_of_waiting {before after : List Falling} {f : Falling} (opened : ∀ g ∈ before, g.window = .opened)
    (waiting : f.window = .waiting) :
    openFirst (before ++ f :: after) = before ++ { f with window := .opened } :: after ∧
      (before ++ f :: after).find? (·.window == .waiting) = some f := by
  induction before with
  | nil => simp [openFirst, waiting]
  | cons g before ih =>
    obtain ⟨now, later⟩ := List.forall_mem_cons.mp opened
    obtain ⟨first, found⟩ := ih later
    simpa [openFirst, now, first] using found

theorem State.profileTime_of {p : Profile} (profile : s.mdc.profile = some p) (f : Profile → Nat) :
    s.profileTime f = f p := by
  simp [State.profileTime, profile]

/-- Settles O51. -/
theorem timersAndBeamsRunOut : Obligations.TimersAndBeamsRunOut := by
  intro s c p before after f since run
  refine ⟨fun profile falling waiting opened => ?window, fun gate => ?gate, fun blocked => ?beam, fun refuse => ?refuse,
    fun profile removal => ⟨s.removalOverdue c, by rw [exec_removalOverdue_eq, running_of_running _ run], ?removal⟩⟩
  case window =>
    obtain ⟨first, found⟩ := openFirst_of_waiting (after := after) opened waiting
    rw [exec_windowOpen_eq, running_of_running _ run, State.windowOpen, falling, found, first,
      State.profileTime_of profile]
    rfl
  case gate =>
    rw [exec_gatePulseEnd_eq, running_of_running _ run, State.gatePulseEnd, gate]
    rfl
  case beam =>
    have same : ((s.told (.beam c) false).beam c).blocked = true := by
      rw [State.beam_congr (s := s) c (by simp)]
      exact blocked
    rw [exec_beamClear_eq, running_of_running _ (by simpa using run), State.beamClears, if_pos same]
    rfl
  case refuse =>
    rw [exec_refusePulseEnd_eq, running_of_running _ run, State.refusePulseEnd, refuse]
    rfl
  case removal =>
    generalize due : since + p.removalLimit * 250000 = t
    have eq : s.removalOverdue c = ((s.reach t).setCradle c { s.cradle c with removal := some t }).raise1
        .removalOverdue (cradleParam c) := by
      have time : since + p.removalLimit * 10 * Config.removalStep = t := by
        rw [← due, Nat.mul_assoc]
        rfl
      rw [State.removalOverdue, removal]
      simp only [State.profileTime_of profile, time]
      rfl
    have stands := State.mem_standing_raise1 ((s.reach t).setCradle c { s.cradle c with removal := some t })
      .removalOverdue (cradleParam c)
    rw [State.stamp_congr (s := s) (by simp)] at stands
    have cradles : ∀ d, (s.removalOverdue c).cradle d =
        ((s.reach t).setCradle c { s.cradle c with removal := some t }).cradle d := by
      intro d
      rw [eq]
      exact State.cradle_congr d (by simp)
    refine ⟨by simp [cradles], by simp [eq], by rw [eq]; exact stands, ?_, by simp, by simp, by simp, by simp, by simp,
      by simp⟩
    rw [cradles, State.setCradle_other]
    rfl

/-! ## FINISH -/

/-- The made count after one more bunch (R26). -/
def Recipe.madeNext (x : Recipe) : Nat := if x.q = 0 then min 4095 (x.made + 1) else x.made + 1

/-- The completion that exhausts a recipe (R26). -/
def Recipe.spends (x : Recipe) : Bool := decide (x.exhausted = false ∧ x.q ≠ 0 ∧ x.madeNext = x.q)

theorem Recipe.spends_iff (x : Recipe) :
    x.spends = true ↔ x.exhausted = false ∧ x.q ≠ 0 ∧ x.madeNext = x.q := decide_eq_true_iff

theorem Recipe.completed_eq (x : Recipe) :
    x.completed = { x with
      inProgress := x.inProgress - 1, made := x.madeNext, exhausted := x.exhausted || x.spends } := by
  unfold Recipe.completed Recipe.spends Recipe.madeNext
  cases x.exhausted <;> simp [Bool.beq_eq_decide_eq, bne]

/-- The completion report of a recipe that is there (R26, R170). -/
theorem State.completionReport_of {i : Nat} {x : Recipe} (record : s.rct[i]? = some x) :
    s.completionReport i =
      if x.spends then (s.onRecipe i fun _ => x.completed).joinNotice (.quota i x.madeNext)
      else s.onRecipe i fun _ => x.completed := by
  have spent : (!x.exhausted && x.completed.exhausted) = x.spends := by
    rw [Recipe.completed_eq, Recipe.spends]
    cases x.exhausted <;> simp
  rw [State.completionReport, record]
  simp only [spent]
  rw [Recipe.completed_eq]

/-- What joins the queue as a cradle enters COMPLETE: a QUOTA notice where the recipe is spent, then the BUNCH
(R26, R70, R170). -/
theorem State.complete_reports {c : Cradle} {i : Nat} {x : Recipe} (how : Completion)
    (recipe : (s.cradle c).recipe = some i) (record : s.rct[i]? = some x) :
    (s.complete c how).rct[i]? = some x.completed ∧ (∀ j, j ≠ i → (s.complete c how).rct[j]? = s.rct[j]?) ∧
      (x.spends = true → s.lbi.notices.length < 8 →
        (s.complete c how).lbi.notices[s.lbi.notices.length]? = some (.quota i x.madeNext)) ∧
      ((if x.spends then s.lbi.notices.length < 7 else s.lbi.notices.length < 8) → ∃ b,
        (s.complete c how).lbi.notices[if x.spends then s.lbi.notices.length + 1 else s.lbi.notices.length]? =
            some (.bunch b) ∧
          b.cradle = c ∧ b.recipe = i ∧ b.completion = (match how with | .full => .full | .short => .short) ∧
          b.count = (s.cradle c).stack.length ∧ b.mean = meanLength ((s.cradle c).stack.map (·.length.val)) ∧
          b.made = x.madeNext) := by
  generalize why_ : (match how with | .full => BunchEnd.full | .short => .short) = why
  generalize begun : s.setCradle c { s.cradle c with state := .complete, completion := some how } = u
  have started : (u.cradle c).recipe = some i ∧ (u.cradle c).stack = (s.cradle c).stack := by
    rw [← begun, State.setCradle_cradle]
    exact ⟨recipe, rfl⟩
  have same : u.rct = s.rct ∧ u.lbi = s.lbi := by simp [← begun]
  obtain ⟨table, lbi⟩ := same
  generalize reported : u.completionReport i = v
  generalize bunch : v.bunchOf c why = b
  have cradle : v.cradle c = u.cradle c := by
    rw [← reported]
    exact State.cradle_congr c (by simp)
  have rct : ∀ j, v.rct[j]? = if i = j then (s.rct[j]?).map Recipe.completed else s.rct[j]? := fun j => by
    rw [← reported, State.completionReport_get, table]
  have done : (s.complete c how).rct = v.rct ∧ (s.complete c how).lbi = (v.joinNotice (.bunch b)).lbi := by
    unfold State.complete
    rw [begun]
    simp only [started.1, reported]
    rw [← bunch, ← why_]
    cases how <;> simp
  have fields : b.cradle = c ∧ b.recipe = i ∧ b.completion = why ∧ b.count = (s.cradle c).stack.length ∧
      b.mean = meanLength ((s.cradle c).stack.map (·.length.val)) ∧ b.made = x.madeNext := by
    rw [← bunch]
    simp [State.bunchOf, cradle, started, State.boundRecipe, rct, record, Recipe.completed_eq]
  rw [done.1, done.2]
  refine ⟨by simp [rct, record], fun j ne => by rw [rct, if_neg ne.symm], fun spends room => ?_, fun room => ⟨b, ?_, fields⟩⟩
  · have quota : v.lbi.notices = s.lbi.notices ++ [.quota i x.madeNext] := by
      rw [← reported, State.completionReport_of (by rw [table]; exact record), if_pos spends,
        State.joinNotice_of_room _ (by simpa [lbi] using room)]
      simp [lbi]
    exact (v.joinNotice_grows (.bunch b)).getElem? (by simp [quota])
  · cases spends : x.spends with
    | false =>
      rw [spends] at room
      have notices : v.lbi.notices = s.lbi.notices := by
        rw [← reported, State.completionReport_of (by rw [table]; exact record), spends]
        simp [lbi]
      rw [State.joinNotice_of_room _ (by rw [notices]; simpa using room)]
      simp [notices]
    | true =>
      rw [spends] at room
      have less : s.lbi.notices.length < 7 := by simpa using room
      have notices : v.lbi.notices = s.lbi.notices ++ [.quota i x.madeNext] := by
        rw [← reported, State.completionReport_of (by rw [table]; exact record), if_pos spends,
          State.joinNotice_of_room _ (by simpa [lbi] using Nat.lt_succ_of_lt less)]
        simp [lbi]
      rw [State.joinNotice_of_room _ (by simp [notices]; omega)]
      simp [notices]

theorem State.complete_refuse (s : State) (c : Cradle) (how : Completion) :
    (s.complete c how).alc.refuse = s.alc.refuse := by
  have report : ∀ (t : State) (i : Nat), (t.completionReport i).alc.refuse = t.alc.refuse := by
    intro t i
    unfold State.completionReport
    dsimp only
    (repeat' split) <;> simp
  unfold State.complete
  dsimp only
  split <;> simp [report]

/-- The pending entries of one cradle go to the Re-offer List (R97). -/
theorem State.forfeitCradle_does (s : State) (c : Cradle) :
    (s.forfeitCradle c).drc = { s.drc with claims := s.drc.claims.filter (·.cradle ≠ c) } ∧
      (s.forfeitCradle c).rol =
        (s.reofferAll ((s.drc.claims.filter (·.cradle = c)).map (·.stem))).rol := by
  refine ⟨by simp [State.forfeitCradle], ?_⟩
  exact State.reofferAll_rol_congr _ rfl rfl rfl

/-- Settles O55. -/
theorem finishClosesTheBunchShort : Obligations.FinishClosesTheBunchShort := by
  intro s c i x run free building stack none recipe record made spent waiting
  have bound := (CradleRec.building_iff _).mpr building
  have finishes : s.finish c true = (s.closeShort c).settle := by
    rw [State.finish, if_pos ((State.mayFinish_iff _ _ _).mpr ⟨rfl, bound, stack, none⟩)]
  refine ⟨_, by rw [exec_finish_eq, request_of_free _ _ run free, finishes], ?_⟩
  generalize emptied : (s.forfeitCradle c).setCradle c { s.cradle c with
    committed := 0, envelope := envelopeOf ((s.cradle c).stack.map (·.length.val)) } = u
  have closes : s.closeShort c = u.complete c .short := by rw [State.closeShort, emptied]
  obtain ⟨drc, rol⟩ := s.forfeitCradle_does c
  have same : u.drc = (s.forfeitCradle c).drc ∧ u.rol = (s.forfeitCradle c).rol ∧ u.rct = s.rct ∧ u.mdc = s.mdc ∧
      u.clu = s.clu ∧ u.ptr = s.ptr ∧ u.alc = s.alc ∧ u.lbi = s.lbi ∧ u.now = s.now := by
    rw [← emptied]
    simp
  obtain ⟨drc', rol', rct, mdc, clu, ptr, alc, lbi, now⟩ := same
  have cradle : u.cradle c = { s.cradle c with
      committed := 0, envelope := envelopeOf ((s.cradle c).stack.map (·.length.val)) } := by
    rw [← emptied, State.setCradle_cradle]
  have other : u.cradle (otherCradle c) = s.cradle (otherCradle c) := by
    rw [← emptied, State.setCradle_other]
    exact State.cradle_congr _ (by simp)
  obtain ⟨own, rest⟩ := u.complete_cradle c .short
  obtain ⟨here, elsewhere, quota, bunch⟩ := State.complete_reports (s := u) .short (by rw [cradle]; exact recipe)
    (by rw [rct]; exact record)
  have exhausts : (x.exhausted || decide spent) = (x.exhausted || x.spends) := rfl
  have spends : spent ↔ x.spends = true := (Recipe.spends_iff x).symm
  rw [closes]
  generalize completed : u.complete c .short = v at own rest here elsewhere quota bunch
  have later : v.drc = u.drc ∧ v.rol = u.rol ∧ v.mdc = u.mdc ∧ v.clu = u.clu ∧ v.ptr = u.ptr ∧
      v.alc.refuse = u.alc.refuse := by
    rw [← completed]
    simp [State.complete_refuse]
  obtain ⟨drc'', rol'', mdc'', clu'', ptr'', refuse⟩ := later
  refine ⟨?_, by simp [drc'', drc', drc], ?_, by simp [refuse, alc], by simp [ptr'', ptr], by simp [ptr'', ptr], ?_,
    fun j ne => ?_, State.settle_moves (mdc''.trans mdc), State.settle_gives _ (mdc''.trans mdc) (clu''.trans clu)
      (by rw [ptr'', ptr]) (by rw [rol'', rol', rol]), fun yes room => ?_, fun room => ?_⟩
  · rw [State.settle_cradle, own, cradle, now]
  · rw [State.settle_cradle, rest, other]
  · rw [exhausts, (v.settle_leaves).2.1, here, Recipe.completed_eq]
    rfl
  · rw [(v.settle_leaves).2.1, elsewhere j ne, rct]
  · rw [lbi] at quota
    exact (v.settle_lbi).getElem? (quota (spends.mp yes) room)
  · rw [lbi, if_congr spends.symm rfl rfl, if_congr spends.symm rfl rfl] at bunch
    obtain ⟨b, waits, ofCradle, ofRecipe, short, count, -, madeNow⟩ := bunch room
    exact ⟨b, (v.settle_lbi).getElem? waits, ofCradle, ofRecipe, short, by rw [count, cradle], madeNow⟩

end Sys2Proof.Machine
end

section
/-! The cradle sensors (R27, R61 to R64, R72, R73, R96, R97). -/

namespace Sys2Proof.Machine

variable {s t u : State}

/-! ## The ordinary changes -/

/-- A change of one cradle that leaves whether it is building (R79). -/
theorem State.someBuilding_setCradle {c : Cradle} {r : CradleRec} (same : r.building = (s.cradle c).building) :
    (s.setCradle c r).someBuilding = s.someBuilding := by
  cases c <;> simp_all [State.someBuilding, State.setCradle, State.cradle]

/-- An event that leaves the mode to the test for IDLE, and finds no ground for it. -/
theorem State.settle_of_busy (busy : u.idleNow = false) :
    u.settle.mdc = u.mdc ∧ u.settle.clu = u.clu ∧ u.settle.rol = u.rol := by
  rw [State.settle_mdc, State.settle_clu, State.settle_rol, busy]
  simp

/-- A change of one cradle's record that leaves whether it is building, with the end of its event (R78, R79). -/
theorem State.cradleChange_does {c : Cradle} {r : CradleRec} (same : r.building = (s.cradle c).building)
    (crm : u.crm = (s.setCradle c r).crm) (drc : u.drc = s.drc) (rct : u.rct = s.rct) (ptr : u.ptr = s.ptr)
    (mdc : u.mdc = s.mdc) (clu : u.clu = s.clu) (rol : u.rol = s.rol) :
    u.settle.cradle c = r ∧ u.settle.cradle (otherCradle c) = s.cradle (otherCradle c) ∧ u.settle.drc = s.drc ∧
      u.settle.rct = s.rct ∧ u.settle.ptr.p = s.ptr.p ∧ u.settle.ptr.h = s.ptr.h ∧
      (s.idleNow = false → u.settle.mdc = s.mdc ∧ u.settle.clu = s.clu ∧ u.settle.rol = s.rol) := by
  have idle : u.idleNow = s.idleNow := by
    rw [State.idleNow, State.someBuilding_congr crm, State.someBuilding_setCradle same, mdc, rct, State.idleNow]
  have cradle : ∀ d, u.settle.cradle d = (s.setCradle c r).cradle d := fun d =>
    (u.settle_cradle d).trans (State.cradle_congr d crm)
  refine ⟨by simp [cradle], by simp [cradle], by simp [drc], by simp [rct], by simp [ptr], by simp [ptr],
    fun busy => ?_⟩
  obtain ⟨mdc', clu', rol'⟩ := State.settle_of_busy (idle.trans busy)
  exact ⟨mdc'.trans mdc, clu'.trans clu, rol'.trans rol⟩

/-- The end of an event moves no condition but BLOCKED (R78). -/
theorem State.settle_places {c : Cause} (blocked : c ≠ .blocked) (lost : c ≠ .noticeLost) :
    s.settle.places c = s.places c := by
  rw [State.places_eq, State.places_eq, State.settle]
  have quiet : ∀ (v : State) (h : Bool), (v.setHoldBlocked h).alc = v.alc := fun v h => by simp
  rw [State.reviewBlocked]
  split
  · simp
  · split
    · rw [quiet, (State.raise1_mayLose _ _ _).places lost, AlertController.places_attend_of_ne _ blocked.symm]
      simp
    · rw [quiet, (State.endCondition_mayLose _ _).places lost, AlertController.places_drop_of_ne blocked]
      simp

theorem AlertsAgree.ordered (h : AlertsAgree s) :
    s.alc.Ordered ∧ s.places .staleCradle = (s.holds .staleCradle).toNat := by
  obtain ⟨pend1, pend2, level1, level2, saved, behind, -, -, -, quiet, -, -, -, stale, -⟩ := h
  exact ⟨⟨pend1, pend2, level1, level2, saved, behind, fun level =>
    quiet (mt (State.level_eq_stop_iff_stops s).mp level)⟩, stale⟩

/-- STALE-CRADLE stands nowhere once the last STALE cradle is lifted out (R63). -/
theorem State.removeStale_places {c : Cradle} (agree : AlertsAgree s)
    (other : (s.cradle (otherCradle c)).state ≠ .stale) : (s.removeStale c).places .staleCradle = 0 := by
  obtain ⟨ordered, stale⟩ := agree.ordered
  have last : ¬ (s.setCradle c { s.cradle c with state := .absent }).someStale = true := by
    rw [State.someStale_iff, not_exists]
    exact (forall_cradle_iff c).mpr ⟨by simp, by simpa using other⟩
  have once : s.alc.places .staleCradle ≤ 1 := by
    rw [← State.places_eq, stale]
    exact Bool.toNat_le _
  rw [State.removeStale]
  simp only [if_neg last]
  rw [State.places_eq, (State.endCondition_mayLose _ _).places (by simp)]
  simpa using ordered.places_drop_self rfl once

theorem State.removeStale_crm (s : State) (c : Cradle) :
    (s.removeStale c).crm = (s.setCradle c { s.cradle c with state := .absent }).crm := by
  unfold State.removeStale
  dsimp only
  split <;> simp

/-- Settles O47. -/
theorem cradleSensorChanges : Obligations.CradleSensorChanges := by
  intro s c run
  refine ⟨fun absent => ⟨_, by rw [exec_cradlePresent_eq, running_of_running _ (by simpa using run)], ?placed⟩,
    fun states => ⟨_, by rw [exec_cradleAbsent_eq, running_of_running _ (by simpa using run)], ?lifted⟩⟩
  case placed =>
    have state : ((s.told (.sensor c) true).cradle c).state = .absent := absent
    rw [State.cradlePlaced, if_pos state]
    exact State.cradleChange_does (by rw [CradleRec.building, CradleRec.building, absent]; rfl) (by cases c <;> rfl) (by simp) (by simp) (by simp) (by simp)
      (by simp) (by simp)
  case lifted =>
    generalize told : s.told (.sensor c) false = u
    have crm : u.crm = s.crm := by rw [← told]; rfl
    have blocks : u.drc = s.drc ∧ u.rct = s.rct ∧ u.ptr = s.ptr ∧ u.mdc = s.mdc ∧ u.clu = s.clu ∧ u.rol = s.rol := by
      rw [← told]
      exact ⟨rfl, rfl, rfl, rfl, rfl, rfl⟩
    obtain ⟨drc, rct, ptr, mdc, clu, rol⟩ := blocks
    have cradle : ∀ d, u.cradle d = s.cradle d := fun d => State.cradle_congr d crm
    have changed : ∀ r, (u.setCradle c r).crm = (s.setCradle c r).crm := fun r => by
      cases c <;> simp [State.setCradle, crm]
    rcases states with empty | stale | complete
    · have lifts : u.cradleLifted c = (u.setCradle c { s.cradle c with state := .absent }).settle := by
        rw [State.cradleLifted, cradle, empty]
      rw [lifts, empty, if_neg (by simp)]
      obtain ⟨own, other, rest⟩ := State.cradleChange_does (s := s) (c := c)
        (r := { s.cradle c with state := .absent }) (u := u.setCradle c { s.cradle c with state := .absent })
        (by rw [CradleRec.building, CradleRec.building, empty]; rfl) (changed _) (by simp [drc]) (by simp [rct]) (by simp [ptr])
        (by simp [mdc]) (by simp [clu]) (by simp [rol])
      obtain ⟨drops, table, p, h, busy⟩ := rest
      exact ⟨own, other, drops, table, p, h, busy, fun e => absurd e (by simp)⟩
    · have lifts : u.cradleLifted c = (u.removeStale c).settle := by
        rw [State.cradleLifted, cradle, stale]
      rw [lifts, stale, if_neg (by simp)]
      obtain ⟨own, other, rest⟩ := State.cradleChange_does (s := s) (c := c)
        (r := { s.cradle c with state := .absent }) (u := u.removeStale c)
        (by rw [CradleRec.building, CradleRec.building, stale]; rfl) (by rw [State.removeStale_crm, cradle, changed]) (by simp [drc])
        (by simp [rct]) (by simp [ptr]) (by simp [mdc]) (by simp [clu]) (by simp [rol])
      obtain ⟨drops, table, p, h, busy⟩ := rest
      refine ⟨own, other, drops, table, p, h, busy, fun _ last agree => ?_⟩
      rw [State.settle_places (by simp) (by simp)]
      exact State.removeStale_places (by rw [← told]; exact agree) (by rw [cradle]; exact last)
    · have lifts : u.cradleLifted c = (u.removeComplete c).settle := by
        rw [State.cradleLifted, cradle, complete]
      rw [lifts, complete, if_pos rfl]
      obtain ⟨own, other, rest⟩ := State.cradleChange_does (s := s) (c := c)
        (r := ⟨.absent, none, [], (s.cradle c).committed, none, none, none⟩) (u := u.removeComplete c)
        (by rw [CradleRec.building, CradleRec.building, complete]; rfl) (by rw [State.removeComplete, cradle, changed]) (by simp [drc])
        (by simp [rct]) (by simp [ptr]) (by simp [mdc]) (by simp [clu]) (by simp [rol])
      obtain ⟨drops, table, p, h, busy⟩ := rest
      exact ⟨own, other, drops, table, p, h, busy, fun e => absurd e (by simp)⟩

/-! ## A premature removal -/

theorem State.reviewIdle_idleNow (s : State) : s.reviewIdle.idleNow = false := by
  cases idle : s.idleNow with
  | false => rw [State.reviewIdle_of_not idle, idle]
  | true => simp [State.reviewIdle_of_idleNow idle, State.idleNow]

/-- The test for IDLE writes the notices no more than a change of mode does. -/
theorem State.reviewIdle_notices (s : State) : s.reviewIdle.lbi.notices = s.lbi.notices := by
  unfold State.reviewIdle
  split
  · exact s.changeMode_notices .idle
  · rfl

/-- The test for IDLE in the middle of an event, a level-1 cause raised, and the end of the event: the mode and the
list are as if the event had ended at the test (R162, R163). -/
theorem State.reviewIdle_raise1_settle (u : State) (c : Cause) (param : BitVec 12) :
    let t := (u.reviewIdle.raise1 c param).settle
    t.mdc = u.settle.mdc ∧ t.rol = u.settle.rol ∧ t.drc = u.drc ∧ t.rct = u.rct ∧ (∀ d, t.cradle d = u.cradle d) ∧
      t.ptr.p = u.ptr.p ∧ t.ptr.h = u.ptr.h ∧ u.lbi.notices <+: t.lbi.notices := by
  intro t
  have busy : (u.reviewIdle.raise1 c param).idleNow = false := by
    rw [State.idleNow_congr (s := u.reviewIdle) (by simp) (by simp) (by simp), u.reviewIdle_idleNow]
  obtain ⟨mdc, -, rol⟩ := State.settle_of_busy busy
  have notices := ((u.reviewIdle.raise1_grows c param).2).trans (State.settle_notices (u.reviewIdle.raise1 c param))
  refine ⟨by simp only [t]; rw [mdc]; simp [State.settle], by simp only [t]; rw [rol]; simp [State.settle], by simp [t],
    by simp [t], fun d => ?_, by simp [t], by simp [t], by rwa [u.reviewIdle_notices] at notices⟩
  exact (State.settle_cradle _ d).trans (State.cradle_congr d (by simp))

/-- The mode after an event, by the cradles and the recipes it ends with (R162, R163). -/
theorem State.moves_of {mdc' : ModeController} (mode : mdc' = u.settle.mdc) (mdc : u.mdc = s.mdc) (rct : t.rct = u.rct)
    (cradle : ∀ d, t.cradle d = u.cradle d) :
    mdc' = { s.mdc with mode :=
      if t.someBuilding = false ∧
        (s.mdc.mode = .active ∧ allExhausted t.rct = true ∨ s.mdc.mode = .draining) then .idle
      else s.mdc.mode } := by
  have a := cradle .a
  have b := cradle .b
  simp only [State.cradle] at a b
  have building : t.someBuilding = u.settle.someBuilding := by
    rw [State.settle_someBuilding, State.someBuilding, a, b, State.someBuilding]
  have table : t.rct = u.settle.rct := by simp [rct]
  rw [mode, State.settle_moves mdc, building, table]

/-- The pending and the falling entries of a cradle given up, and its bind ended (R27, R73, R96, R97). -/
def State.giveUpBunch (s : State) (c : Cradle) (i : Nat) : State :=
  (((s.forfeitCradle c).discardFalling c).setCradle c { s.cradle c with committed := 0 }).onRecipe i Recipe.unbound

/-- A premature removal but for the test for IDLE and the raise (R73). -/
def State.bunchLifted (s : State) (c : Cradle) (i : Nat) : State :=
  (if (s.cradle c).stack.isEmpty then s.giveUpBunch c i
    else (s.giveUpBunch c i).joinNotice (.bunch ((s.giveUpBunch c i).bunchOf c .abandoned))).setCradle c
      { s.cradle c with state := .absent, recipe := none, stack := [], committed := 0, envelope := none }

theorem State.giveUpBunch_cradle (s : State) (c d : Cradle) (i : Nat) :
    (s.giveUpBunch c i).cradle d = (s.setCradle c { s.cradle c with committed := 0 }).cradle d := by
  cases c <;> cases d <;> simp [State.giveUpBunch, State.onRecipe, State.setCradle, State.cradle]

theorem State.removePremature_eq {c : Cradle} {i : Nat} (recipe : (s.cradle c).recipe = some i) :
    s.removePremature c = (s.bunchLifted c i).reviewIdle.raise1 .prematureRemoval (cradleParam c) := by
  have forfeited : ((s.forfeitCradle c).discardFalling c).cradle c = s.cradle c := State.cradle_congr c (by simp)
  have given := s.giveUpBunch_cradle c c i
  rw [State.setCradle_cradle] at given
  have joined := State.cradle_congr (s := s.giveUpBunch c i)
    (t := (s.giveUpBunch c i).joinNotice (.bunch ((s.giveUpBunch c i).bunchOf c .abandoned))) c (by simp)
  unfold State.removePremature State.bunchLifted
  rw [given] at joined
  simp only [State.giveUpBunch, recipe] at given joined ⊢
  simp only [forfeited, State.setCradle_cradle, recipe, given]
  split <;> simp only [given, joined]
  · rfl
  · rfl

theorem State.giveUpBunch_frame (s : State) (c : Cradle) (i : Nat) :
    (s.giveUpBunch c i).drc = { s.drc with
      claims := s.drc.claims.filter (·.cradle ≠ c)
      falling := s.drc.falling.filter (·.claim.cradle ≠ c) } ∧
      (s.giveUpBunch c i).rct = s.rct.modify i Recipe.unbound ∧
      (s.giveUpBunch c i).rol = (s.reofferAll ((s.drc.claims.filter (·.cradle = c)).map (·.stem))).rol ∧
      (s.giveUpBunch c i).ptr = s.ptr ∧ (s.giveUpBunch c i).mdc = s.mdc ∧ (s.giveUpBunch c i).clu = s.clu ∧
      (s.giveUpBunch c i).lbi = s.lbi := by
  obtain ⟨drc, rol⟩ := s.forfeitCradle_does c
  simp [State.giveUpBunch, State.discardFalling, State.onRecipe, drc, rol]

/-- The blocks of a premature removal, the test for IDLE and the raise apart (R73). -/
theorem State.bunchLifted_does (s : State) (c : Cradle) (i : Nat) :
    (s.bunchLifted c i).drc = (s.giveUpBunch c i).drc ∧ (s.bunchLifted c i).rct = (s.giveUpBunch c i).rct ∧
      (s.bunchLifted c i).rol = (s.giveUpBunch c i).rol ∧ (s.bunchLifted c i).ptr = s.ptr ∧
      (s.bunchLifted c i).mdc = s.mdc ∧ (s.bunchLifted c i).clu = s.clu ∧
      (s.bunchLifted c i).cradle c = { s.cradle c with
        state := .absent, recipe := none, stack := [], committed := 0, envelope := none } ∧
      (s.bunchLifted c i).cradle (otherCradle c) = s.cradle (otherCradle c) ∧
      ((s.cradle c).stack ≠ [] → s.lbi.notices.length < 8 → (s.bunchLifted c i).lbi.notices =
        s.lbi.notices ++ [.bunch ((s.giveUpBunch c i).bunchOf c .abandoned)]) := by
  obtain ⟨-, -, -, ptr, mdc, clu, lbi⟩ := s.giveUpBunch_frame c i
  have other := s.giveUpBunch_cradle c (otherCradle c) i
  rw [State.setCradle_other] at other
  unfold State.bunchLifted
  cases stack : (s.cradle c).stack with
  | nil => simp [ptr, mdc, clu, other]
  | cons top under =>
    have joined : ∀ n, ((s.giveUpBunch c i).joinNotice n).cradle (otherCradle c) = s.cradle (otherCradle c) := fun n =>
      (State.cradle_congr _ (by simp)).trans other
    simp only [List.isEmpty_cons, Bool.false_eq_true, if_false, State.setCradle_frame, State.joinNotice_frame, ptr, mdc,
      clu, State.setCradle_cradle, State.setCradle_other, joined, true_and]
    intro _ room
    rw [State.joinNotice_of_room _ (by rw [lbi]; exact room)]
    simp [lbi]

/-- Settles O48. -/
theorem prematureRemoval : Obligations.PrematureRemoval := by
  intro s c i x run building recipe record
  generalize told : s.told (.sensor c) false = u
  have blocks : u.drc = s.drc ∧ u.rct = s.rct ∧ u.ptr = s.ptr ∧ u.mdc = s.mdc ∧ u.clu = s.clu ∧ u.rol = s.rol ∧
      u.crm = s.crm ∧ u.lbi = s.lbi := by
    rw [← told]
    exact ⟨rfl, rfl, rfl, rfl, rfl, rfl, rfl, rfl⟩
  obtain ⟨drc, rct, ptr, mdc, clu, rol, crm, lbi⟩ := blocks
  have cradle : ∀ d, u.cradle d = s.cradle d := fun d => State.cradle_congr d crm
  have lifts : u.cradleLifted c = (u.removePremature c).settle := by
    rw [State.cradleLifted, cradle]
    rcases building with state | state <;> rw [state]
  refine ⟨_, by rw [exec_cradleAbsent_eq, running_of_running _ (by simpa using run), told, lifts,
    State.removePremature_eq (i := i) (by rw [cradle]; exact recipe)], ?_⟩
  obtain ⟨drops, table, list, -, -, -, -⟩ := u.giveUpBunch_frame c i
  obtain ⟨drc', rct', rol', ptr', mdc', clu', own, other, notices⟩ := u.bunchLifted_does c i
  generalize lifted : u.bunchLifted c i = v at drc' rct' rol' ptr' mdc' clu' own other notices
  obtain ⟨mdc'', rol'', drc'', rct'', cradle'', p, h, queue⟩ :=
    v.reviewIdle_raise1_settle .prematureRemoval (cradleParam c)
  have stands := v.reviewIdle.mem_standing_raise1 .prematureRemoval (cradleParam c)
  rw [State.stamp_congr (s := s) (by simp [ptr', ptr])] at stands
  have mode := State.moves_of (s := s) mdc'' (mdc'.trans mdc) rct'' cradle''
  have gives : v.rol = (s.reofferAll ((s.drc.claims.filter (·.cradle = c)).map (·.stem))).rol := by
    rw [rol', list, drc]
    exact State.reofferAll_rol_congr _ (by rw [ptr]) (by rw [mdc]) rol
  have list' := State.settle_gives _ (mdc'.trans mdc) (clu'.trans clu) (by rw [ptr', ptr]) gives
  rw [← mdc'', ← rol''] at list'
  refine ⟨by rw [cradle'', own, cradle], by rw [cradle'', other, cradle], by rw [drc'', drc', drops, drc], ?_,
    fun j ne => ?_, mode, list', fun stack room => ⟨(u.giveUpBunch c i).bunchOf c .abandoned, ?_, ?_⟩, (State.mem_standing_settle (by simp) (by simp)).mpr stands,
    by rw [p, ptr', ptr], by rw [h, ptr', ptr]⟩
  · rw [rct'', rct', table, rct, List.getElem?_modify]
    simp [record, Recipe.unbound]
  · rw [rct'', rct', table, rct, List.getElem?_modify]
    simp [Ne.symm ne]
  · have waits := notices (by rw [cradle]; exact stack) (by rw [lbi]; exact room)
    rw [lbi] at waits
    obtain ⟨more, grown⟩ := queue
    rw [← grown, waits]
    simp
  · have given := u.giveUpBunch_cradle c c i
    rw [State.setCradle_cradle, cradle] at given
    have made : (u.giveUpBunch c i).rct[i]? = some x.unbound := by
      rw [table, rct, List.getElem?_modify]
      simp [record]
    simp [State.bunchOf, given, recipe, State.boundRecipe, made, Recipe.unbound]

end Sys2Proof.Machine
end

section
/-! Landings and misses (R67, R68, R88, R89, R92, R93). -/

namespace Sys2Proof.Machine

variable {s t u : State}

/-! ## A landing -/

/-- The record of a cradle that a stem has landed in (R67). -/
def CradleRec.landed (r : CradleRec) (e : Claim) (verified : Bool) : CradleRec :=
  { r with stack := e.landed verified :: r.stack, committed := r.committed - 1 }

/-- A landing on a cradle bound to a recipe: the Nth completes the bunch FULL (R67). -/
theorem State.land_of {e : Claim} {verified : Bool} {i : Nat} {x : Recipe}
    (recipe : (s.cradle e.cradle).recipe = some i) (record : s.rct[i]? = some x) :
    s.land e verified =
      if (s.cradle e.cradle).stack.length + 1 = x.n then
        (s.setCradle e.cradle ((s.cradle e.cradle).landed e verified)).complete e.cradle .full
      else s.setCradle e.cradle ((s.cradle e.cradle).landed e verified) := by
  have bound : (s.setCradle e.cradle ((s.cradle e.cradle).landed e verified)).boundRecipe
      ((s.cradle e.cradle).landed e verified) = some x := by
    simp [State.boundRecipe, CradleRec.landed, recipe, record]
  unfold CradleRec.landed at bound ⊢
  unfold State.land
  dsimp only
  rw [bound]
  rfl

theorem find?_of_passed {before after : List Falling} {f : Falling} {c : Cradle}
    (passed : ∀ g ∈ before, g.claim.cradle ≠ c ∨ g.window = .waiting) (cradle : f.claim.cradle = c)
    (opened : f.window = .opened) :
    (before ++ f :: after).find? (fun g => g.claim.cradle == c && g.window == .opened) = some f ∧
      (before ++ f :: after).erase f = before ++ after := by
  have apart : f ∉ before := fun mem => (passed f mem).elim (· cradle) fun waiting => by
    rw [opened] at waiting
    exact absurd waiting (by simp)
  refine ⟨?_, ?_⟩
  · rw [List.find?_append, List.find?_eq_none.mpr]
    · simp [cradle, opened]
    · intro g mem
      rcases passed g mem with other | waiting
      · simp [other]
      · simp [waiting]
  · rw [List.erase_append_right _ apart, List.erase_cons_head]

/-- Settles O49. -/
theorem beamBlockedLandsTheOldestOpenStem : Obligations.BeamBlockedLandsTheOldestOpenStem := by
  intro s c before after f i x run clear falling cradle opened passed recipe record made spent waiting
  subst cradle
  obtain ⟨found, erased⟩ := find?_of_passed (after := after) passed rfl opened
  obtain ⟨ptr, rct, clu, rol, crm, mdc, drc⟩ := s.beamBroken_frame f.claim.cradle
  have now : (s.beamBroken f.claim.cradle).now = s.now := by simp [State.beamBroken]
  have lbi : (s.beamBroken f.claim.cradle).lbi = s.lbi := by simp [State.beamBroken]
  have list : (s.beamBroken f.claim.cradle).drc.falling = before ++ f :: after := by
    rw [drc]
    simp [falling]
  generalize broken : s.beamBroken f.claim.cradle = u at ptr rct clu rol crm mdc drc now lbi list
  generalize dropped : u.setDrc { u.drc with falling := before ++ after } = v
  have judged : u.judgeBreak f.claim.cradle =
      (v.land f.claim true).setDrc { (v.land f.claim true).drc with missRun := 0 } := by
    rw [State.judgeBreak, State.oldestOpen, list, found]
    simp only [erased, ← dropped]
  have same : v.ptr = s.ptr ∧ v.rct = s.rct ∧ v.clu = s.clu ∧ v.rol = s.rol ∧ v.crm = s.crm ∧ v.mdc = s.mdc ∧
      v.lbi = s.lbi ∧ v.now = s.now ∧ v.drc = { u.drc with falling := before ++ after } := by
    rw [← dropped]
    exact ⟨ptr, rct, clu, rol, crm, mdc, lbi, now, rfl⟩
  obtain ⟨ptr', rct', clu', rol', crm', mdc', lbi', now', drc'⟩ := same
  have cradle : ∀ d, v.cradle d = s.cradle d := fun d => State.cradle_congr d crm'
  refine ⟨_, by rw [exec_beamBlocked, execBeamBlocked_of_clear run clear, broken, judged], ?_⟩
  obtain ⟨stack, committed, envelope, -, other⟩ := v.land_cradle f.claim true
  generalize landed : v.land f.claim true = w at stack committed envelope other
  have blocks : w.ptr = s.ptr ∧ w.clu = s.clu ∧ w.rol = s.rol ∧ w.mdc = s.mdc ∧ w.drc = v.drc := by
    rw [← landed]
    simp [ptr', clu', rol', mdc']
  obtain ⟨wptr, wclu, wrol, wmdc, wdrc⟩ := blocks
  generalize counted : w.setDrc { w.drc with missRun := 0 } = z
  have zs : z.ptr = w.ptr ∧ z.clu = w.clu ∧ z.rol = w.rol ∧ z.mdc = w.mdc ∧ z.drc = { w.drc with missRun := 0 } ∧
      z.rct = w.rct ∧ z.lbi = w.lbi ∧ ∀ d, z.cradle d = w.cradle d := by
    rw [← counted]
    exact ⟨rfl, rfl, rfl, rfl, rfl, rfl, rfl, fun d => State.cradle_congr d rfl⟩
  obtain ⟨zptr, zclu, zrol, zmdc, zdrc, zrct, zlbi, zcradle⟩ := zs
  have ends : ∀ d, z.settle.cradle d = w.cradle d := fun d => (z.settle_cradle d).trans (zcradle d)
  have table : z.settle.rct = w.rct := by simp [zrct]
  rw [State.land_of (by rw [cradle]; exact recipe) (by rw [rct']; exact record), cradle] at landed
  generalize moved : v.setCradle f.claim.cradle ((s.cradle f.claim.cradle).landed f.claim true) = y at landed
  have placed : y.cradle f.claim.cradle = (s.cradle f.claim.cradle).landed f.claim true ∧ y.rct = s.rct ∧
      y.lbi = s.lbi ∧ y.now = s.now := by
    rw [← moved]
    simp [rct', lbi', now']
  obtain ⟨own, yrct, ylbi, ynow⟩ := placed
  refine ⟨by simp [zdrc, wdrc, drc', drc], by simp [zptr, wptr], by simp [zptr, wptr], ?_, ?_, ?_, ?_,
    State.settle_moves (zmdc.trans wmdc), State.settle_keeps (zmdc.trans wmdc) (zclu.trans wclu) (by rw [zptr, wptr])
      (zrol.trans wrol), fun j ne => ?_, fun short => ?_, fun full => ?_⟩
  · rw [ends, stack, cradle]
    rfl
  · rw [ends, committed, cradle]
  · rw [ends, envelope, cradle]
  · rw [ends, other, cradle]
  · rw [table, ← landed]
    split
    · rw [(State.complete_reports (s := y) .full (by rw [own]; exact recipe) (by rw [yrct]; exact record)).2.1 j ne, yrct]
    · rw [yrct]
  · rw [if_neg short] at landed
    rw [ends, table, ← landed, own, yrct]
    exact ⟨rfl, rfl⟩
  · rw [if_pos full] at landed
    obtain ⟨here, -, quota, bunch⟩ := State.complete_reports (s := y) .full (by rw [own]; exact recipe)
      (by rw [yrct]; exact record)
    obtain ⟨closed, -⟩ := y.complete_cradle f.claim.cradle .full
    rw [landed] at here quota bunch closed
    have spends : spent ↔ x.spends = true := (Recipe.spends_iff x).symm
    rw [ylbi] at quota bunch
    rw [if_congr spends.symm rfl rfl, if_congr spends.symm rfl rfl] at bunch
    have grows : ∀ {j n}, w.lbi.notices[j]? = some n → z.settle.lbi.notices[j]? = some n := fun at_ =>
      z.settle_lbi.getElem? (by rw [zlbi]; exact at_)
    refine ⟨by rw [ends, closed], by rw [ends, closed], by rw [ends, closed, ynow], ?_,
      fun yes room => grows (quota (spends.mp yes) room), fun room => ?_⟩
    · rw [table, here, Recipe.completed_eq]
      rfl
    · obtain ⟨b, waits, ofCradle, ofRecipe, completed, count, mean, madeNow⟩ := bunch room
      refine ⟨b, grows waits, ofCradle, ofRecipe, completed, ?_, ?_, madeNow⟩
      · rw [count, own, ← full]
        rfl
      · rw [mean, ends, closed]

/-! ## A miss -/

theorem State.someBuilding_eq (s : State) (c : Cradle) :
    s.someBuilding = ((s.cradle c).building || (s.cradle (otherCradle c)).building) := by
  cases c
  · rfl
  · exact Bool.or_comm _ _

theorem allExhausted_modify {l : List Recipe} {i : Nat} : allExhausted (l.modify i Recipe.unbound) = allExhausted l := by
  have flags : (l.modify i Recipe.unbound).map (·.exhausted) = l.map (·.exhausted) := by
    refine List.ext_getElem? fun j => ?_
    simp only [List.getElem?_map, List.getElem?_modify]
    cases l[j]? <;> simp [Recipe.unbound]
    split <;> rfl
  have all : ∀ m : List Recipe, allExhausted m = (!(m.map (·.exhausted)).isEmpty && (m.map (·.exhausted)).all id) := by
    intro m
    simp [allExhausted, List.all_map]
  rw [all, all, flags]

/-- An un-commit ends no recipe (R25). -/
theorem State.uncommit_exhausted (s : State) (c : Cradle) (n : Nat) :
    allExhausted (s.uncommit c n).rct = allExhausted s.rct := by
  unfold State.uncommit
  split
  · rfl
  · rw [State.afterLoss_rct]
    (repeat' split) <;> simp [allExhausted_modify]

/-- One stem un-committed leaves a cradle building unless it was its last (R68, R69). -/
theorem State.uncommit_building (s : State) (c : Cradle) :
    ((s.uncommit c 1).cradle c).building = false ↔
      (s.cradle c).building = false ∨ (s.cradle c).stack = [] ∧ (s.cradle c).committed ≤ 1 := by
  obtain ⟨own, -, -⟩ :=
    (s.setCradle c { s.cradle c with committed := (s.cradle c).committed - 1 }).afterLoss_cradle c
  rw [State.uncommit, if_neg (by omega), own, State.setCradle_cradle]
  have same : ({ s.cradle c with committed := (s.cradle c).committed - 1 } : CradleRec).building =
      (s.cradle c).building := rfl
  have last : ({ s.cradle c with committed := (s.cradle c).committed - 1 } : CradleRec).k = 0 ↔
      (s.cradle c).stack = [] ∧ (s.cradle c).committed ≤ 1 := by
    rw [CradleRec.k, ← List.length_eq_zero_iff]
    dsimp only
    omega
  rw [same]
  cases building : (s.cradle c).building with
  | false => simp [building, same]
  | true =>
    by_cases none_ : (s.cradle c).stack = [] ∧ (s.cradle c).committed ≤ 1
    · rw [if_pos rfl, if_pos (last.mpr none_)]
      simp [CradleRec.building, none_]
    · rw [if_pos rfl, if_neg (mt last.mp none_)]
      simpa [CradleRec.building] using none_

/-- A level-1 raise stands as the current record or in the level-1 set, and nowhere else does it come to stand
(R118, R122). -/
theorem State.raise1_attended (s : State) (c : Cause) (param : BitVec 12) :
    (s.raise1 c param).alc.current = some ⟨c, param, s.stamp⟩ ∨ ⟨c, param, s.stamp⟩ ∈ (s.raise1 c param).alc.pend1 := by
  cases current : s.alc.current with
  | none =>
    rw [State.raise1_of_none c param current]
    exact .inl (State.queueAlert_current rfl)
  | some r =>
    rw [State.raise1_of_current c param current]
    exact .inr (mem_putRecord_self _ _)

/-- A level-2 cause leaves the level-1 records standing, BLOCKED and NOTICE-LOST apart (R120 to R122). -/
theorem State.raise2_standing {c : Cause} (stop : c.isStop = true) (param : BitVec 12) {r : Record}
    (blocked : r.cause ≠ .blocked) (lost : r.cause ≠ .noticeLost)
    (attended : s.alc.current = some r ∨ r ∈ s.alc.pend1) : r ∈ (s.raise2 c param).standing := by
  by_cases stopped : s.level = .stop
  · rw [State.raise2_in_stop c param stopped, State.standing_eq, AlertController.mem_standing]
    exact attended.imp_right fun mem => .inr (.inl mem)
  · have recorded : r ∈ (s.recordStop c param).standing := by
      rw [State.recordStop, State.mem_standing_queueAlert lost, State.standing_eq, AlertController.mem_standing]
      exact .inr (attended.imp_right .inl)
    have stops : r ∈ (s.stopping c param).alc.standing := by
      rw [State.stopping_alc]
      exact recorded
    rw [State.raise2_of_not_stop c param stopped, State.standing_eq, State.enterStop_alc stop]
    split
    · exact (AlertController.mem_standing_drop_of_ne blocked).mpr stops
    · exact stops

/-- STOP just entered, the end of the event finds nothing to do (R78, R162). -/
theorem State.enterStop_settle (s : State) (c : Cause) (param : BitVec 12) :
    (s.enterStop c param).settle = s.enterStop c param := by
  refine State.settle_of_steady ?_ ?_
  · rw [State.enterStop_eq, State.reviewBlocked_blocked]
  · rw [State.idleNow, (s.enterStop_does c param).1]
    simp

/-- A missed stem, its un-commit and the test for IDLE at that moment (R68, R92, R163). -/
theorem State.loseStem_does (s : State) (f : Falling) (rest : List Falling) :
    let c := f.claim.cradle
    let mode : Mode :=
      if (s.cradle (otherCradle c)).building = false ∧
          ((s.cradle c).building = false ∨ (s.cradle c).stack = [] ∧ (s.cradle c).committed ≤ 1) ∧
          (s.mdc.mode = .active ∧ allExhausted s.rct = true ∨ s.mdc.mode = .draining) then .idle
      else s.mdc.mode
    let u := s.loseStem f rest
    u.mdc = { s.mdc with mode := mode } ∧ u.rol = (if mode = s.mdc.mode then s else s.reofferAll s.wonStems).rol ∧
      u.drc = { s.drc with falling := rest } ∧ (u.cradle c).stack = (s.cradle c).stack ∧
      (u.cradle c).committed = (s.cradle c).committed - 1 ∧ u.cradle (otherCradle c) = s.cradle (otherCradle c) ∧
      u.idleNow = false ∧ u.ptr = s.ptr ∧ u.now = s.now ∧ (u.level = .stop ↔ s.level = .stop) := by
  intro c mode u
  generalize lost : (s.setDrc { s.drc with falling := rest }).uncommit c 1 = v
  have loses : u = v.reviewIdle.raise1 .miss f.claim.stem.tag := by rw [← lost]; rfl
  obtain ⟨stack, -, -, committed, other, -⟩ := (s.setDrc { s.drc with falling := rest }).uncommit_keeps c 1
  have building := (s.setDrc { s.drc with falling := rest }).uncommit_building c
  have table := (s.setDrc { s.drc with falling := rest }).uncommit_exhausted c 1
  rw [lost] at stack committed other building table
  have blocks : v.mdc = s.mdc ∧ v.clu = s.clu ∧ v.rol = s.rol ∧ v.drc = { s.drc with falling := rest } ∧
      v.ptr = s.ptr ∧ v.now = s.now := by
    rw [← lost]
    simp
  obtain ⟨mdc, clu, rol, drc, ptr, now⟩ := blocks
  simp only [State.cradle_setDrc] at stack committed other building
  have idle : v.idleNow = true ↔ (s.cradle (otherCradle c)).building = false ∧
      ((s.cradle c).building = false ∨ (s.cradle c).stack = [] ∧ (s.cradle c).committed ≤ 1) ∧
      (s.mdc.mode = .active ∧ allExhausted s.rct = true ∨ s.mdc.mode = .draining) := by
    rw [State.idleNow_iff, v.someBuilding_eq c, Bool.or_eq_false_iff, building, other, mdc, table]
    tauto
  have moved : v.settle.mdc = { s.mdc with mode := mode } := by
    rw [State.settle_mdc, if_congr idle rfl rfl, mdc]
  have list := State.settle_keeps mdc clu (by rw [ptr]) rol
  rw [moved] at list
  have cradle : ∀ d, u.cradle d = v.cradle d := fun d => by
    rw [loses]
    exact State.cradle_congr d (by simp)
  refine ⟨?_, ?_, by simp [loses, drc], by rw [cradle, stack], by rw [cradle, committed], by rw [cradle, other], ?_,
    by simp [loses, ptr], by simp [loses, now], s.loseStem_level f rest⟩
  · rw [← moved, loses]
    simp [State.settle]
  · rw [← list, loses]
    simp [State.settle]
  · rw [loses, State.idleNow_congr (s := v.reviewIdle) (by simp) (by simp) (by simp), v.reviewIdle_idleNow]

/-- Settles O52. -/
theorem missedStemIsUncommittedAndCounted : Obligations.MissedStemIsUncommittedAndCounted := by
  intro s p f rest run profile falling opened c mode
  generalize due : s.reach (f.fireTime + p.tmax * 250) = s'
  have misses : s.miss = s'.missed f rest := by
    rw [State.miss, falling, ← due]
    simp only [opened, if_true, State.profileTime_of profile]
    rfl
  refine ⟨_, by rw [exec_miss_eq, running_of_running _ run, misses, State.missed_eq], ?_⟩
  have blocks : s'.mdc = s.mdc ∧ s'.clu = s.clu ∧ s'.rol = s.rol ∧ s'.drc = s.drc ∧ s'.ptr = s.ptr ∧ s'.rct = s.rct ∧
      s'.alc = s.alc ∧ s'.now = max s.now (f.fireTime + p.tmax * 250) := by
    rw [← due]
    exact ⟨rfl, rfl, rfl, rfl, rfl, rfl, rfl, rfl⟩
  obtain ⟨mdc, clu, rol, drc, ptr, rct, alc, now⟩ := blocks
  have cradle : ∀ d, s'.cradle d = s.cradle d := fun d => by rw [← due]; exact State.cradle_congr d rfl
  obtain ⟨umdc, urol, udrc, ustack, ucommitted, uother, uidle, uptr, unow, ulevel⟩ := s'.loseStem_does f rest
  have attended := ((s'.setDrc { s'.drc with falling := rest }).uncommit f.claim.cradle 1).reviewIdle.raise1_attended .miss
    f.claim.stem.tag
  rw [State.stamp_congr (s := s) (by simp [ptr]), ← State.loseStem] at attended
  generalize lost : s'.loseStem f rest = u at *
  generalize counted : u.setDrc { u.drc with missRun := min 255 (s.drc.missRun + 1) } = v
  have vs : v.mdc = u.mdc ∧ v.rol = u.rol ∧ v.ptr = u.ptr ∧ v.now = u.now ∧ v.alc = u.alc ∧
      v.drc = { s.drc with falling := rest, missRun := min 255 (s.drc.missRun + 1) } ∧ v.idleNow = false ∧
      ∀ d, v.cradle d = u.cradle d := by
    rw [← counted]
    exact ⟨rfl, rfl, rfl, rfl, rfl, by simp [udrc, drc], uidle, fun d => State.cradle_congr d rfl⟩
  obtain ⟨vmdc, vrol, vptr, vnow, valc, vdrc, vidle, vcradle⟩ := vs
  have miss : u.drc.missRun = s.drc.missRun := by rw [udrc, drc]
  have counts : u.countMiss f.claim.cradle =
      if s.drc.missRun = 2 then v.raise2 .missRun (cradleParam c) else v := by
    have third : min 255 (s.drc.missRun + 1) = 3 ↔ s.drc.missRun = 2 := by omega
    rw [State.countMiss, miss]
    simp only [counted]
    exact if_congr third rfl rfl
  have stamp : v.stamp = s.stamp := State.stamp_congr (by rw [vptr, uptr, ptr])
  have level : v.level = .stop ↔ s.level = .stop := by
    rw [State.level_congr valc, ulevel, State.level_congr alc]
  rw [← valc] at attended
  have moved : v.mdc = { s.mdc with mode := mode } := by
    rw [vmdc, umdc, mdc, rct]
    simp only [cradle]
    rfl
  have list : v.rol = (if mode = s.mdc.mode then s else s.reofferAll s.wonStems).rol := by
    rw [vrol, urol, mdc, rct]
    simp only [cradle]
    change (if mode = s.mdc.mode then s' else s'.reofferAll s'.wonStems).rol = _
    split
    · exact rol
    · rw [State.wonStems_congr clu]
      exact State.reofferAll_rol_congr _ (by rw [ptr]) (by rw [mdc]) rol
  have pile : (v.cradle c).stack = (s.cradle c).stack := by rw [vcradle, ustack, cradle]
  rw [counts]
  by_cases third : s.drc.missRun = 2
  · rw [if_pos third]
    obtain ⟨falls, piles, h1, h2, -, -, run', -⟩ := v.raise2_leaves .missRun (cradleParam c)
    have stands := State.raise2_standing (c := .missRun) rfl (cradleParam c) (by simp) (by simp) attended
    refine ⟨by simp [falls, vdrc], by simp [vnow, unow, now], by simp [run', vdrc],
      by simp [h1, vptr, uptr, ptr], by simp [h2, vptr, uptr, ptr], (State.mem_standing_settle (by simp) (by simp)).mpr stands,
      by rw [State.settle_cradle, piles, pile], fun other => absurd third other, fun _ moving => ?_, fun _ stopped => ?_⟩
    · have free : v.level ≠ .stop := mt level.mp moving
      obtain ⟨current, mdc', saved, drops⟩ := State.raise2_enters (c := .missRun) rfl (cradleParam c) free
      have steady : (v.raise2 .missRun (cradleParam c)).settle = v.raise2 .missRun (cradleParam c) := by
        rw [State.raise2_of_not_stop _ _ free, State.enterStop_settle]
      rw [steady, current, mdc', saved, drops, stamp, moved]
      exact ⟨rfl, rfl, rfl, rfl, rfl⟩
    · obtain ⟨waits, -⟩ := State.raise2_waits (c := .missRun) (cradleParam c) (level.mpr stopped)
      rw [stamp] at waits
      simpa using waits
  · rw [if_neg third]
    obtain ⟨mdc', -, rol'⟩ := State.settle_of_busy vidle
    have stands : ⟨.miss, f.claim.stem.tag, s.stamp⟩ ∈ v.standing := by
      rw [State.standing_eq, AlertController.mem_standing]
      exact attended.imp_right fun mem => .inr (.inl mem)
    exact ⟨by simp [vdrc], by simp [vnow, unow, now], by simp [vdrc], by simp [vptr, uptr, ptr],
      by simp [vptr, uptr, ptr], (State.mem_standing_settle (by simp) (by simp)).mpr stands,
      by rw [State.settle_cradle, pile],
      fun _ => ⟨mdc'.trans moved, rol'.trans list, by rw [State.settle_cradle, vcradle, ucommitted, cradle],
        by simp [vdrc], by rw [State.settle_cradle, vcradle, uother, cradle]⟩,
      fun yes => absurd yes third, fun yes => absurd yes third⟩

end Sys2Proof.Machine
end

section
/-! FORWARD_PULSE (R5, R10 to R12, R15, R41, R45, R83 to R86, R105, R142). -/

namespace Sys2Proof.Machine

variable {s t u v : State}

/-! ## Cradles stop building and recipes run out, and not the other way -/

/-- No cradle starts building and no recipe becomes usable again: the tests for IDLE only come closer (R162, R163). -/
structure State.WindsDown (s t : State) : Prop where
  building : t.someBuilding = true → s.someBuilding = true
  exhausted : allExhausted s.rct = true → allExhausted t.rct = true

theorem State.WindsDown.of_same (crm : t.crm = s.crm) (rct : t.rct = s.rct) : s.WindsDown t :=
  ⟨fun h => by rwa [State.someBuilding_congr crm] at h, fun h => by rwa [rct]⟩

theorem State.WindsDown.trans (h : s.WindsDown t) (k : t.WindsDown u) : s.WindsDown u :=
  ⟨h.building ∘ k.building, k.exhausted ∘ h.exhausted⟩

theorem State.WindsDown.of_cradle {c : Cradle} (own : (t.cradle c).building = true → (s.cradle c).building = true)
    (other : t.cradle (otherCradle c) = s.cradle (otherCradle c))
    (exhausted : allExhausted s.rct = true → allExhausted t.rct = true) : s.WindsDown t := by
  refine ⟨fun h => ?_, exhausted⟩
  rw [State.someBuilding_eq _ c, Bool.or_eq_true] at h ⊢
  rw [other] at h
  exact h.imp_left own

theorem State.windsDown_uncommit (s : State) (c : Cradle) (n : Nat) : s.WindsDown (s.uncommit c n) := by
  obtain ⟨-, -, -, -, other, -⟩ := s.uncommit_keeps c n
  refine .of_cradle (c := c) (fun h => ?_) other fun h => by rwa [State.uncommit_exhausted]
  by_cases none_ : n = 0
  · rwa [State.uncommit, if_pos none_] at h
  · by_contra idle
    obtain ⟨own, -⟩ := (s.setCradle c { s.cradle c with committed := (s.cradle c).committed - n }).afterLoss_cradle c
    rw [State.uncommit, if_neg none_, own, State.setCradle_cradle, if_neg (by exact idle)] at h
    exact idle h

/-- A completion report exhausts its recipe or leaves it (R26). -/
theorem State.completionReport_exhausted (s : State) (i : Nat) (spent : allExhausted s.rct = true) :
    allExhausted (s.completionReport i).rct = true := by
  have table : (s.completionReport i).rct = s.rct.modify i Recipe.completed := by
    refine List.ext_getElem? fun j => ?_
    rw [State.completionReport_get, List.getElem?_modify]
    split
    · cases s.rct[j]? <;> rfl
    · cases s.rct[j]? <;> rfl
  simp only [allExhausted, Bool.and_eq_true, Bool.not_eq_true', List.isEmpty_eq_false_iff, ne_eq, List.all_eq_true] at spent ⊢
  obtain ⟨some_, all⟩ := spent
  rw [table]
  refine ⟨by simpa [← List.length_eq_zero_iff] using some_, fun x mem => ?_⟩
  obtain ⟨j, at_⟩ := List.mem_iff_getElem?.mp mem
  rw [List.getElem?_modify] at at_
  obtain ⟨y, was, rfl⟩ := Option.map_eq_some_iff.mp at_
  have before := all y (List.mem_of_getElem? was)
  split
  · simp [Recipe.completed, before]
  · exact before

theorem State.complete_exhausted (s : State) (c : Cradle) (how : Completion) (spent : allExhausted s.rct = true) :
    allExhausted (s.complete c how).rct = true := by
  unfold State.complete
  dsimp only
  split
  · simpa using spent
  · rename_i i _
    simpa using State.completionReport_exhausted (s.setCradle c _) i (by simpa using spent)

theorem State.windsDown_land (s : State) (e : Claim) (verified : Bool) : s.WindsDown (s.land e verified) := by
  obtain ⟨-, -, -, -, other⟩ := s.land_cradle e verified
  refine .of_cradle (c := e.cradle) (fun h => ?_) other fun spent => ?_
  · unfold State.land at h
    dsimp only at h
    split at h
    · simpa [CradleRec.building] using h
    · split at h
      · rw [(State.complete_cradle _ _ _).1] at h
        simp [CradleRec.building] at h
      · simpa [CradleRec.building] using h
  · unfold State.land
    dsimp only
    split
    · simpa using spent
    · split
      · exact State.complete_exhausted _ _ _ (by simpa using spent)
      · simpa using spent

/-! ## The tests for IDLE in the course of an arrival -/

/-- The grounds of R162 and R163 but for the cradles, for a station that came in the mode of `s`. -/
def State.asksIdle (s : State) (rs : List Recipe) : Prop :=
  s.mdc.mode = .active ∧ allExhausted rs = true ∨ s.mdc.mode = .draining

/-- Where an event that began at `s` stands: the mode, the round and the transmitter as they were and the list `kept`,
or gone to IDLE, for a reason that still holds, with the list `given` (R45, R162, R163). -/
def State.Along (s t : State) (kept given : ReofferList) : Prop :=
  (t.mdc = s.mdc ∧ t.clu = s.clu ∧ t.rol = kept ∧ t.lbi.tx = s.lbi.tx ∧ (s.idleNow = false → t.idleNow = false)) ∨
    (t.someBuilding = false ∧ s.asksIdle t.rct ∧ t.mdc = { s.mdc with mode := .idle } ∧ t.clu = s.roundWithoutMode ∧
      t.rol = given ∧ t.lbi.tx = if s.drivingClaim = true ∧ (s.clu.round = .bidding ∨ s.clu.round = .won) then none
        else s.lbi.tx)

theorem State.Along.refl (s : State) (given : ReofferList) : s.Along s s.rol given :=
  .inl ⟨rfl, rfl, rfl, rfl, id⟩

theorem State.asksIdle_of_windsDown (asks : s.asksIdle t.rct) (down : t.WindsDown u) : s.asksIdle u.rct :=
  asks.imp_left fun ⟨active, spent⟩ => ⟨active, down.exhausted spent⟩

theorem State.mode_of_asksIdle {rs : List Recipe} (asks : s.asksIdle rs) : s.mdc.mode ≠ .idle := by
  rcases asks with ⟨mode, -⟩ | mode <;> simp [mode]

theorem State.building_of_windsDown (none_ : t.someBuilding = false) (down : t.WindsDown u) : u.someBuilding = false :=
  Bool.eq_false_iff.mpr fun h => Bool.false_ne_true (none_.symm.trans (down.building h))

/-- Operations elsewhere, the cradles and recipes as they are. -/
theorem State.Along.keep {kept given : ReofferList} (h : s.Along t kept given) (mdc : u.mdc = t.mdc)
    (clu : u.clu = t.clu) (rol : u.rol = t.rol) (tx : u.lbi.tx = t.lbi.tx) (crm : u.crm = t.crm) (rct : u.rct = t.rct) :
    s.Along u kept given := by
  have building := State.someBuilding_congr crm
  have idle := State.idleNow_congr mdc crm rct
  rcases h with ⟨mode, round, list, tx', busy⟩ | ⟨none_, asks, mode, round, list, tx'⟩
  · exact .inl ⟨mdc.trans mode, clu.trans round, rol.trans list, tx.trans tx', fun b => idle.trans (busy b)⟩
  · exact .inr ⟨building.trans none_, by rwa [rct], mdc.trans mode, clu.trans round, rol.trans list, tx.trans tx'⟩

/-- Cradles that wind down, with the test for IDLE made at once (R163). -/
theorem State.Along.test (h : s.Along t s.rol (s.reofferAll s.wonStems).rol) (down : t.WindsDown u) (mdc : u.mdc = t.mdc)
    (clu : u.clu = t.clu) (rol : u.rol = t.rol) (tx : u.lbi.tx = t.lbi.tx) (p : u.ptr.p = s.ptr.p) :
    s.Along u.reviewIdle s.rol (s.reofferAll s.wonStems).rol := by
  rcases h with ⟨mode, round, list, tx', busy⟩ | ⟨none_, asks, mode, round, list, tx'⟩
  · cases idle : u.idleNow with
    | false =>
      rw [State.reviewIdle_of_not idle]
      exact .inl ⟨mdc.trans mode, clu.trans round, rol.trans list, tx.trans tx', fun _ => idle⟩
    | true =>
      obtain ⟨building, asks⟩ := u.idleNow_iff.mp idle
      rw [mdc, mode] at asks
      obtain ⟨ends, gives, lbi⟩ := u.changeMode_of_ends (m := .idle) rfl
      have driving : u.drivingClaim = s.drivingClaim := by
        simp only [State.drivingClaim, tx, tx']
      have round' : u.clu = s.clu := clu.trans round
      rw [State.reviewIdle_of_idleNow idle]
      refine .inr ⟨by rw [State.someBuilding_congr (s := u) (by simp), building], by simpa [State.asksIdle] using asks,
        by simp [mdc, mode], by rw [ends, State.roundWithoutMode, State.roundWithoutMode, driving, round'], ?_,
        by rw [lbi, driving, round']; simp only [tx, tx']⟩
      rw [gives, State.wonStems_congr round']
      exact State.reofferAll_rol_congr _ p (by rw [mdc, mode]) (rol.trans list)
  · have idle : u.idleNow = false := by
      rw [State.idleNow, mdc, mode]
      simp
    rw [State.reviewIdle_of_not idle]
    exact .inr ⟨State.building_of_windsDown none_ down, State.asksIdle_of_windsDown asks down, mdc.trans mode,
      clu.trans round, rol.trans list, tx.trans tx'⟩

theorem State.raise1_tx (s : State) (c : Cause) (param : BitVec 12) : (s.raise1 c param).lbi.tx = s.lbi.tx :=
  (s.raise1_grows c param).frame.2.2.1

theorem State.Along.passClaim (h : s.Along t s.rol (s.reofferAll s.wonStems).rol) (p : t.ptr.p = s.ptr.p) (e : Claim)
    (rest : List Claim) : s.Along (t.passClaim e rest) s.rol (s.reofferAll s.wonStems).rol := by
  have lost : s.Along ((t.setDrc { t.drc with claims := rest }).uncommit e.cradle 1).reviewIdle s.rol
      (s.reofferAll s.wonStems).rol :=
    h.test ((State.WindsDown.of_same (s := t) (t := t.setDrc { t.drc with claims := rest }) rfl rfl).trans
      (State.windsDown_uncommit _ _ _)) (by simp) (by simp) (by simp) (by simp) (by simpa using p)
  exact lost.keep (by simp [State.passClaim]) (by simp [State.passClaim]) (by simp [State.passClaim])
    (State.raise1_tx _ _ _) (by simp [State.passClaim]) (by simp [State.passClaim])

theorem State.Along.clearPassed (h : s.Along t s.rol (s.reofferAll s.wonStems).rol) (p : t.ptr.p = s.ptr.p)
    (l : List Claim) : s.Along (t.clearPassed l) s.rol (s.reofferAll s.wonStems).rol := by
  induction l generalizing t with
  | nil => exact h
  | cons e rest ih =>
    unfold State.clearPassed
    split
    · exact ih (h.passClaim p e rest) (by simpa using p)
    · exact h

theorem State.Along.fire (h : s.Along t s.rol (s.reofferAll s.wonStems).rol) (p : t.ptr.p = s.ptr.p) (e : Claim)
    (rest : List Claim) : s.Along (t.fire e rest) s.rol (s.reofferAll s.wonStems).rol := by
  rcases Nat.lt_or_ge t.drc.falling.length 4 with room | full
  · rw [State.fire_of_room e rest room]
    exact h.keep rfl rfl rfl rfl rfl rfl
  · rw [State.fire_of_full e rest full]
    have tx : ((t.aim e rest).land e false).lbi.tx = t.lbi.tx := ((t.aim e rest).land_grows e false).frame.2.2.1
    have landed : s.Along ((t.aim e rest).land e false).reviewIdle s.rol (s.reofferAll s.wonStems).rol :=
      h.test ((State.WindsDown.of_same (s := t) (t := t.aim e rest) rfl rfl).trans (State.windsDown_land _ _ _)) (by simp [State.aim]) (by simp [State.aim])
        (by simp [State.aim]) tx (by simpa [State.aim] using p)
    exact landed.keep (by simp) (by simp) (by simp) (State.raise1_tx _ _ _) (by simp) (by simp)

theorem State.along_arrival (s : State) : s.Along s.arrival s.rol (s.reofferAll s.wonStems).rol := by
  have cleared := (State.Along.refl s (s.reofferAll s.wonStems).rol).clearPassed rfl s.drc.claims
  unfold State.arrival
  dsimp only
  split
  · exact cleared
  · split
    · exact cleared.fire (by simp) _ _
    · exact cleared

/-! ## The rest of the pulse -/

/-- A Re-offer List after the expiry check (R105). -/
def State.unexpired (s : State) (l : ReofferList) : ReofferList :=
  { l with entries := l.entries.filter fun e => !s.expired e.tag || l.sending == some e.tag }

theorem State.Along.expire {kept given : ReofferList} (h : s.Along t kept given) :
    s.Along t.expire (t.unexpired kept) (t.unexpired given) := by
  have list : t.expire.rol = t.unexpired t.rol := rfl
  rcases h with ⟨mode, round, same, tx', busy⟩ | ⟨none_, asks, mode, round, same, tx'⟩
  · exact .inl ⟨mode, round, list.trans (by rw [same]), tx', busy⟩
  · exact .inr ⟨none_, asks, mode, round, list.trans (by rw [same]), tx'⟩

/-- The pulse's announcement awaited (R5, R11, R41, R142). -/
theorem State.expectAnnounce_does (s : State) :
    s.expectAnnounce.ptr = { s.ptr with
      announceExpected := true
      unannounced := if s.ptr.announceExpected then min 255 (s.ptr.unannounced + 1) else s.ptr.unannounced
      gaugeSilent := s.ptr.gaugeSilent || s.ptr.announceExpected && s.ptr.unannounced == 7 } ∧
    s.expectAnnounce.clu = (if s.clu.round = .bidding ∧ s.drivingClaim = false then
      { s.clu with round := .lost, gaveUp := true } else s.clu) ∧
    s.expectAnnounce.lbi.tx = s.lbi.tx ∧ s.expectAnnounce.lbi.announcePending = some s.now := by
  generalize counted : (if s.ptr.announceExpected then s.unannouncedPitch else s) = u
  have eq : s.expectAnnounce = ((u.setPtr { u.ptr with announceExpected := true }).setLbi
      { u.lbi with announcePending := some u.now }).giveUpStart := by
    rw [State.expectAnnounce, counted]
    rfl
  have blocks : u.clu = s.clu ∧ u.now = s.now ∧ u.lbi.tx = s.lbi.tx ∧
      ({ u.ptr with announceExpected := true } : Tracker) = { s.ptr with
        announceExpected := true
        unannounced := if s.ptr.announceExpected then min 255 (s.ptr.unannounced + 1) else s.ptr.unannounced
        gaugeSilent := s.ptr.gaugeSilent || s.ptr.announceExpected && s.ptr.unannounced == 7 } := by
    rw [← counted]
    cases s.ptr.announceExpected with
    | false => simp
    | true => simp [State.unannouncedPitch_ptr, s.unannouncedPitch_grows.frame.2.2.1]
  obtain ⟨clu, now, tx, ptr⟩ := blocks
  have driving : ((u.setPtr { u.ptr with announceExpected := true }).setLbi
      { u.lbi with announcePending := some u.now }).drivingClaim = s.drivingClaim := by
    simp [State.drivingClaim, tx]
  rw [eq]
  refine ⟨by simpa using ptr, ?_, by simpa using tx, by simp [now]⟩
  rw [State.giveUpStart_clu, driving]
  simp [clu]

/-- The coast count of the pulse (R15). -/
theorem State.countCoast_does (s : State) :
    s.countCoast.ptr = { s.ptr with
      coast := if s.ptr.holdRead = true then min 4095 (s.ptr.coast + 1) else s.ptr.coast } ∧
    s.lbi.NoticesGrow s.countCoast.lbi := by
  cases read : s.ptr.holdRead with
  | false =>
    rw [State.countCoast_of_open read]
    exact ⟨by simp, .refl _⟩
  | true =>
    by_cases fourth : s.ptr.coast = 3
    · rw [State.countCoast_of_fourth read fourth]
      exact ⟨by simp [State.coastUp], State.raise1_grows s.coastUp _ _⟩
    · rw [State.countCoast_of_other read fourth]
      exact ⟨by simp [State.coastUp], .refl _⟩

/-- The end of a pulse, from where its arrival and its expiry check left it. -/
theorem State.Along.pulse {kept given : ReofferList} (h : s.Along u kept given)
    (nothing : s.clu.round ≠ .won → given = kept) :
    let t := u.expectAnnounce.countCoast.settle
    t.mdc = { s.mdc with mode :=
        if t.someBuilding = false ∧ (s.mdc.mode = .active ∧ allExhausted t.rct = true ∨ s.mdc.mode = .draining) then .idle
        else s.mdc.mode } ∧
      t.clu = (match s.clu.round with
        | .idle | .lost => s.clu
        | .bidding =>
          if s.drivingClaim = false then { s.clu with round := .lost, gaveUp := true }
          else if t.mdc.mode = s.mdc.mode then s.clu else .atRest
        | .won => if t.mdc.mode = s.mdc.mode then s.clu else .atRest) ∧
      t.lbi.tx = (if t.mdc.mode ≠ s.mdc.mode ∧ s.drivingClaim = true ∧
        (s.clu.round = .bidding ∨ s.clu.round = .won) then none else s.lbi.tx) ∧
      ((s.clu.round = .won → s.idleNow = false) → t.rol = if t.mdc.mode = s.mdc.mode then kept else given) := by
  intro t
  obtain ⟨-, round', tx', -⟩ := u.expectAnnounce_does
  have notices := u.expectAnnounce.countCoast_does.2
  generalize ended : u.expectAnnounce.countCoast = v at notices
  have vs : v.mdc = u.mdc ∧ v.crm = u.crm ∧ v.rct = u.rct ∧ v.rol = u.rol ∧ v.clu = u.expectAnnounce.clu ∧
      v.lbi.tx = u.lbi.tx := by
    refine ⟨?_, ?_, ?_, ?_, ?_, notices.frame.2.2.1.trans tx'⟩ <;> rw [← ended] <;> simp
  obtain ⟨mdc, crm, rct, rol, clu, tx⟩ := vs
  have idle := State.idleNow_congr mdc crm rct
  have building : t.someBuilding = u.someBuilding := by
    simp only [t, ended, State.settle_someBuilding, State.someBuilding_congr crm]
  have table : t.rct = u.rct := by simp [t, ended, rct]
  have tmdc : t.mdc = { u.mdc with mode := if u.idleNow = true then .idle else u.mdc.mode } := by
    simp only [t, ended, State.settle_mdc, idle, mdc]
  have ttx : t.lbi.tx = if u.idleNow = true ∧ v.drivingClaim = true ∧
      (v.clu.round = .bidding ∨ v.clu.round = .won) then none else u.lbi.tx := by
    have := v.settle_lbi.frame.2.2.1
    rw [idle, tx] at this
    simpa only [t, ended] using this
  have tclu : t.clu = if u.idleNow then v.roundWithoutMode else v.clu := by
    simp only [t, ended, State.settle_clu, idle]
  have trol : t.rol = if u.idleNow then (v.reofferAll v.wonStems).rol else v.rol := by
    simp only [t, ended, State.settle_rol, idle]
  have driving : v.drivingClaim = u.drivingClaim := by simp only [State.drivingClaim, tx]
  rw [round'] at clu
  have asks := u.idleNow_iff
  rcases h with ⟨umdc, uclu, urol, utx, busy⟩ | ⟨none_, reason, umdc, uclu, urol, utx⟩
  · have udriving : u.drivingClaim = s.drivingClaim := by simp only [State.drivingClaim, utx]
    rw [umdc] at asks tmdc
    rw [uclu, udriving] at clu
    cases goes : u.idleNow with
    | false =>
      simp only [goes, Bool.false_eq_true, if_false, false_and] at tmdc ttx tclu trol asks
      have mode : t.mdc.mode = s.mdc.mode := by rw [tmdc]
      refine ⟨?_, ?_, ?_, fun _ => ?_⟩
      · rw [tmdc, building, table, if_neg asks.mpr]
      · rw [tclu, clu, mode]
        cases s.clu.round <;> simp
      · rw [ttx, if_neg (fun c => c.1 mode), utx]
      · rw [trol, rol, urol, if_pos mode]
    | true =>
      simp only [goes, if_true, true_and, true_iff] at tmdc ttx tclu trol asks
      have ne : t.mdc.mode ≠ s.mdc.mode := by
        rw [tmdc]
        exact (State.mode_of_asksIdle asks.2).symm
      rw [State.roundWithoutMode, driving, udriving, clu] at tclu
      rw [driving, udriving, utx, clu] at ttx
      refine ⟨?_, ?_, ?_, fun won => ?_⟩
      · rw [tmdc, building, table, if_pos asks]
      · rw [tclu]
        cases round : s.clu.round <;> cases s.drivingClaim <;> simp [round, ne]
      · rw [ttx]
        cases round : s.clu.round <;> cases s.drivingClaim <;> simp [round, ne]
      · have notWon : s.clu.round ≠ .won := fun e => by
          rw [busy (won e)] at goes
          exact Bool.false_ne_true goes
        have none_ : v.wonStems = [] := by
          rw [State.wonStems, clu, if_neg]
          split
          · simp
          · exact notWon
        rw [trol, none_, if_neg ne, nothing notWon]
        exact rol.trans urol
  · have gone : u.idleNow = false := by
      rw [State.idleNow, umdc]
      simp
    have ne : t.mdc.mode ≠ s.mdc.mode := by
      rw [tmdc, gone, umdc]
      exact (State.mode_of_asksIdle reason).symm
    have mode : t.mdc.mode = .idle := by rw [tmdc, gone, umdc]; rfl
    simp only [gone, Bool.false_eq_true, if_false, false_and] at tmdc ttx tclu trol
    refine ⟨?_, ?_, ?_, fun _ => ?_⟩
    · rw [tmdc, umdc, building, table, if_pos ⟨none_, reason⟩]
    · rw [tclu, clu, uclu, State.roundWithoutMode]
      cases round : s.clu.round <;> cases driven : s.drivingClaim <;> simp [round, ne, ClaimUnit.atRest]
    · rw [ttx, utx]
      exact if_congr (by simp [ne]) rfl rfl
    · rw [trol, rol, urol, if_neg ne]

end Sys2Proof.Machine
end

section
/-! FORWARD_PULSE at the tracker and the Claim Unit (R5, R10 to R12, R41, R45, R105, R142). -/

namespace Sys2Proof.Machine

variable {s t u v : State}

/-! ## The pulse up to its expiry check -/

/-- A forward pulse as it stands after the expiry check: P advanced, and the arrival served (R5, R105). -/
def State.pulsed (s : State) : State :=
  match s.ptr.p with
  | none => s
  | some p => (s.advance p).arrival.expire

theorem State.forwardPulse_eq (s : State) : s.forwardPulse = s.pulsed.expectAnnounce.countCoast.settle := by
  cases p : s.ptr.p with
  | none => rw [State.forwardPulse_of_unsynced p, State.pulsed, p]
  | some p' => rw [State.forwardPulse_of_synced p, State.pulsed, p]

theorem State.clearPassed_drc (s : State) (l : List Claim) :
    (s.clearPassed l).drc = { s.drc with claims := (s.clearPassed l).drc.claims } := by
  induction l generalizing s with
  | nil => rfl
  | cons e rest ih =>
    unfold State.clearPassed
    split
    · rw [ih]
      simp [State.passClaim]
    · rfl

/-- What an arrival leaves of the Drop Controller (R83 to R86). -/
theorem State.arrival_drops (s : State) :
    s.arrival.drc.missRun = s.drc.missRun ∧ s.arrival.drc.beamA = s.drc.beamA ∧ s.arrival.drc.beamB = s.drc.beamB := by
  have cleared := s.clearPassed_drc s.drc.claims
  have fires : ∀ (t : State) e rest, (t.fire e rest).drc.missRun = t.drc.missRun ∧
      (t.fire e rest).drc.beamA = t.drc.beamA ∧ (t.fire e rest).drc.beamB = t.drc.beamB := by
    intro t e rest
    rcases Nat.lt_or_ge t.drc.falling.length 4 with room | full
    · rw [State.fire_of_room e rest room]
      exact ⟨rfl, rfl, rfl⟩
    · rw [State.fire_of_full e rest full]
      simp [State.aim]
  unfold State.arrival
  dsimp only
  split
  · rw [cleared]
    exact ⟨rfl, rfl, rfl⟩
  · split
    · obtain ⟨missRun, beamA, beamB⟩ := fires (s.clearPassed s.drc.claims) _ _
      rw [missRun, beamA, beamB, cleared]
      exact ⟨rfl, rfl, rfl⟩
    · rw [cleared]
      exact ⟨rfl, rfl, rfl⟩

/-- P and H after the pulse (R5, R10). -/
theorem State.pulsed_ptr (s : State) :
    s.pulsed.ptr = { s.ptr with
      p := s.ptr.p.map (· + 1)
      h := match s.ptr.p with
        | none => s.ptr.h
        | some p => s.ptr.h.map fun h => if (p + 1 - h).toNat = 2048 then h + 1 else h } := by
  cases p : s.ptr.p with
  | none =>
    have stays : s.pulsed = s := by rw [State.pulsed, p]
    rw [stays]
    change s.ptr = { s.ptr with p := none }
    rw [← p]
  | some p' => simp [State.pulsed, p, State.advance]

/-- The Re-offer List of a pulse, with and without a change to IDLE in its arrival (R45, R105). -/
def State.pulseList (s : State) (idle : Bool) : ReofferList :=
  match s.ptr.p with
  | none => if idle then (s.reofferAll s.wonStems).rol else s.rol
  | some p =>
    let a := s.setPtr { s.ptr with p := some (p + 1) }
    a.unexpired (if idle then (a.reofferAll s.wonStems).rol else a.rol)

theorem State.expired_of (g : Tag) (p : t.ptr.p = s.ptr.p) (profile : t.mdc.profile = s.mdc.profile) :
    t.expired g = s.expired g := by
  simp [State.expired, State.posTest, State.posOf, p, profile]

theorem State.unexpired_of (l : ReofferList) (p : t.ptr.p = s.ptr.p) (profile : t.mdc.profile = s.mdc.profile) :
    t.unexpired l = s.unexpired l := by
  simp only [State.unexpired, State.expired_of _ p profile]

theorem State.Along.profile {kept given : ReofferList} (h : s.Along t kept given) :
    t.mdc.profile = s.mdc.profile := by
  rcases h with ⟨mdc, -⟩ | ⟨-, -, mdc, -⟩ <;> rw [mdc]

theorem State.along_pulsed (s : State) : s.Along s.pulsed (s.pulseList false) (s.pulseList true) := by
  cases p : s.ptr.p with
  | none =>
    rw [State.pulsed, State.pulseList, State.pulseList, p]
    exact .refl s _
  | some p' =>
    have along := (s.advance p').along_arrival.expire
    generalize advanced : s.setPtr { s.ptr with p := some (p' + 1) } = a
    have list : ∀ l, (s.advance p').arrival.unexpired l = a.unexpired l := fun l =>
      State.unexpired_of l (by simp [← advanced, State.advance])
        ((s.advance p').along_arrival.profile.trans (by simp [← advanced]))
    have won : ((s.advance p').reofferAll (s.advance p').wonStems).rol = (a.reofferAll s.wonStems).rol := by
      rw [State.wonStems_congr (s := s) (by simp)]
      exact State.reofferAll_rol_congr _ (by simp [← advanced, State.advance]) (by simp [← advanced]) (by simp [← advanced])
    rw [list, list, won] at along
    rw [State.pulsed, State.pulseList, State.pulseList, p]
    simp only [advanced, if_true, Bool.false_eq_true, if_false]
    have same : a.rol = (s.advance p').rol := by simp [← advanced]
    rw [same]
    exact along

theorem State.pulseList_same (s : State) (notWon : s.clu.round ≠ .won) : s.pulseList true = s.pulseList false := by
  have none_ : s.wonStems = [] := if_neg notWon
  unfold State.pulseList
  rw [none_]
  rfl

theorem State.pulseList_entries {l : ReofferList} (s : State) {m : Mode}
    (list : l = if m = s.mdc.mode then s.pulseList false else s.pulseList true)
    (busy : s.ptr.p = none → m ≠ s.mdc.mode → s.clu.round ≠ .won) :
    l.sending = s.rol.sending ∧ l.entries = (match s.ptr.p with
      | none => s.rol.entries
      | some p =>
        let a := s.setPtr { s.ptr with p := some (p + 1) }
        (if m = s.mdc.mode then a else a.reofferAll s.wonStems).rol.entries.filter fun e =>
          !a.expired e.tag || s.rol.sending == some e.tag) := by
  subst list
  cases p : s.ptr.p with
  | none =>
    by_cases same : m = s.mdc.mode
    · simp [same, State.pulseList, p]
    · rw [if_neg same, s.pulseList_same (busy p same)]
      simp [State.pulseList, p]
  | some p' => by_cases same : m = s.mdc.mode <;> simp [same, State.pulseList, State.unexpired, p]

/-- Settles O13: the pulse is followed block by block, the arrival by what it may do to mode, round and list. -/
theorem forwardPulseAdvancesTheTag : Obligations.ForwardPulseAdvancesTheTag := by
  intro s run
  refine ⟨_, by rw [exec_forwardPulse_eq, running_of_running _ run, State.forwardPulse_eq], ?_⟩
  obtain ⟨mode, round, tx, list⟩ := s.along_pulsed.pulse s.pulseList_same
  have ptr := s.pulsed_ptr
  obtain ⟨eptr, -, -, pending⟩ := s.pulsed.expectAnnounce_does
  obtain ⟨cptr, grows⟩ := s.pulsed.expectAnnounce.countCoast_does
  have settled := s.pulsed.expectAnnounce.countCoast.settle_ptr
  rw [cptr, eptr, ptr] at settled
  generalize ended : s.pulsed.expectAnnounce.countCoast = v at *
  have drops : v.settle.drc = s.pulsed.drc := by simp [← ended]
  have kept : s.pulsed.drc.missRun = s.drc.missRun ∧ s.pulsed.drc.beamA = s.drc.beamA ∧
      s.pulsed.drc.beamB = s.drc.beamB ∧ (s.ptr.p = none → s.pulsed.drc = s.drc) ∧ s.pulsed.now = s.now ∧
      (s.drc.claims = [] → s.pulsed.drc = s.drc ∧ s.pulsed.rct = s.rct ∧ s.pulsed.crm = s.crm) := by
    cases p : s.ptr.p with
    | none => simp [State.pulsed, p]
    | some p' =>
      obtain ⟨missRun, beamA, beamB⟩ := (s.advance p').arrival_drops
      rw [State.pulsed, p]
      refine ⟨by simpa using missRun, by simpa using beamA, by simpa using beamB, fun e => absurd e (by simp), by simp, fun none_ => ?_⟩
      have stays := State.arrival_of_no_claims (s := s.advance p') (by simpa using none_)
      simp [stays]
  obtain ⟨missRun, beamA, beamB, unsynced, now, noClaims⟩ := kept
  have cradle : ∀ d, v.settle.cradle d = s.pulsed.cradle d := fun d =>
    (v.settle_cradle d).trans (State.cradle_congr d (by simp [← ended]))
  refine ⟨by rw [settled], (congrArg Tracker.h settled).trans (by cases s.ptr.p <;> rfl), by rw [settled], ?_,
    by rw [settled], by rw [settled], fun p => by rw [drops, unsynced p], mode, round, tx, fun won => ?_, ?_, by rw [drops, missRun],
    by rw [drops, beamA], by rw [drops, beamB], fun none_ => ?_⟩
  · rw [v.settle_lbi.frame.2.2.2.2.1]
    exact grows.frame.2.2.2.2.1.trans (pending.trans (by rw [now]))
  · have busy : s.ptr.p = none → v.settle.mdc.mode ≠ s.mdc.mode → s.clu.round ≠ .won := fun p moved isWon => by
      have same : s.pulsed = s := by rw [State.pulsed, p]
      rw [mode] at moved
      have asks := (ite_ne_right_iff.mp moved).1
      have building : v.settle.someBuilding = s.someBuilding := by
        rw [State.someBuilding_eq _ .a, cradle, cradle, same, ← State.someBuilding_eq]
      have table : v.settle.rct = s.rct := by simp [← ended, same]
      rw [building, table, ← s.idleNow_iff] at asks
      exact Bool.noConfusion (asks.symm.trans (won isWon))
    exact s.pulseList_entries (list won) busy
  · simp [← ended, now]
  · obtain ⟨drc, rct, crm⟩ := noClaims none_
    refine ⟨by rw [drops, drc], by simp [← ended, rct], ?_, ?_⟩
    · exact (cradle .a).trans (by rw [State.cradle, crm])
    · exact (cradle .b).trans (by rw [State.cradle, crm])

end Sys2Proof.Machine
end

section
/-! FORWARD_PULSE and the coast count (R14, R15, R78). -/

namespace Sys2Proof.Machine

variable {s t u v : State}

/-! ## What an arrival may raise -/

/-- An event that may raise the causes of `l` and no other, and does not review BLOCKED. -/
structure State.RaisesOnly (l : List Cause) (s t : State) : Prop where
  blocked : t.crm.blocked = s.crm.blocked
  standing : ∀ r, r.cause ∉ l → (r ∈ t.standing ↔ r ∈ s.standing)

variable {l : List Cause}

theorem State.RaisesOnly.trans (h : State.RaisesOnly l s t) (k : State.RaisesOnly l t u) : State.RaisesOnly l s u :=
  ⟨k.blocked.trans h.blocked, fun r other => (k.standing r other).trans (h.standing r other)⟩

theorem State.RaisesOnly.mono {m : List Cause} (h : State.RaisesOnly m s t) (sub : m ⊆ l) : State.RaisesOnly l s t :=
  ⟨h.blocked, fun r other => h.standing r fun mem => other (sub mem)⟩

theorem State.RaisesOnly.of_same (blocked : t.crm.blocked = s.crm.blocked) (alc : t.alc = s.alc) :
    State.RaisesOnly l s t :=
  ⟨blocked, fun _ _ => by rw [State.standing_congr alc]⟩

theorem State.raisesOnly_joinNotice (s : State) (n : Notice) : State.RaisesOnly [.noticeLost] s (s.joinNotice n) :=
  ⟨by simp, fun _ other => State.mem_standing_joinNotice n (by simpa using other)⟩

theorem State.raisesOnly_raise1 (s : State) (c : Cause) (param : BitVec 12) :
    State.RaisesOnly [c, .noticeLost] s (s.raise1 c param) := by
  refine ⟨by simp, fun r other => ?_⟩
  simp only [List.mem_cons, List.not_mem_nil, or_false, not_or] at other
  exact State.mem_standing_raise1_of_ne param other.1 other.2

theorem State.raisesOnly_setCradle (s : State) (c : Cradle) (r : CradleRec) : State.RaisesOnly l s (s.setCradle c r) :=
  .of_same (by simp) (by simp)

theorem State.raisesOnly_reviewIdle (s : State) : State.RaisesOnly l s s.reviewIdle :=
  .of_same (by simp) (by simp)

theorem State.raisesOnly_complete (s : State) (c : Cradle) (how : Completion) :
    State.RaisesOnly [.noticeLost] s (s.complete c how) := by
  have report : ∀ (t : State) i, State.RaisesOnly [.noticeLost] t (t.completionReport i) := by
    intro t i
    unfold State.completionReport
    dsimp only
    split
    · exact .of_same rfl rfl
    · split
      · exact (State.RaisesOnly.of_same (s := t) (t := t.onRecipe i _) rfl rfl).trans (State.raisesOnly_joinNotice _ _)
      · exact .of_same rfl rfl
  unfold State.complete
  dsimp only
  split
  · exact ((s.raisesOnly_setCradle c _).trans (State.raisesOnly_joinNotice _ _)).trans
      (State.raisesOnly_setCradle _ _ _)
  · exact (((s.raisesOnly_setCradle c _).trans (report _ _)).trans (State.raisesOnly_joinNotice _ _)).trans
      (State.raisesOnly_setCradle _ _ _)

theorem State.raisesOnly_land (s : State) (e : Claim) (verified : Bool) :
    State.RaisesOnly [.noticeLost] s (s.land e verified) := by
  have onto := State.raisesOnly_setCradle (l := [.noticeLost]) s e.cradle
  unfold State.land
  dsimp only
  split
  · exact onto _
  · split
    · exact (onto _).trans (State.raisesOnly_complete _ _ _)
    · exact onto _

theorem State.raisesOnly_passClaim (s : State) (e : Claim) (rest : List Claim) :
    State.RaisesOnly [.passedClaim, .noticeLost] s (s.passClaim e rest) := by
  obtain ⟨-, -, -, -, -, blocked⟩ := (s.setDrc { s.drc with claims := rest }).uncommit_keeps e.cradle 1
  exact (State.RaisesOnly.of_same (by simpa using blocked) (by simp)).trans (State.raisesOnly_raise1 _ _ _)

theorem State.raisesOnly_clearPassed (s : State) (l : List Claim) :
    State.RaisesOnly [.passedClaim, .noticeLost] s (s.clearPassed l) := by
  induction l generalizing s with
  | nil => exact .of_same rfl rfl
  | cons e rest ih =>
    unfold State.clearPassed
    split
    · exact (s.raisesOnly_passClaim e rest).trans (ih _)
    · exact .of_same rfl rfl

theorem State.raisesOnly_fire (s : State) (e : Claim) (rest : List Claim) :
    State.RaisesOnly [.overspeed, .noticeLost] s (s.fire e rest) := by
  rcases Nat.lt_or_ge s.drc.falling.length 4 with room | full
  · rw [State.fire_of_room e rest room]
    exact .of_same rfl rfl
  · rw [State.fire_of_full e rest full]
    have landed : State.RaisesOnly [.noticeLost] s ((s.aim e rest).land e false).reviewIdle :=
      ((State.RaisesOnly.of_same (s := s) (t := s.aim e rest) rfl rfl).trans (State.raisesOnly_land _ e false)).trans
        (State.raisesOnly_reviewIdle _)
    exact (landed.mono (by simp)).trans (State.raisesOnly_raise1 _ _ _)

theorem State.raisesOnly_pulsed (s : State) :
    State.RaisesOnly [.passedClaim, .overspeed, .noticeLost] s s.pulsed := by
  have arrival : ∀ u : State, State.RaisesOnly [.passedClaim, .overspeed, .noticeLost] u u.arrival := by
    intro u
    have cleared := (u.raisesOnly_clearPassed u.drc.claims).mono
      (l := [.passedClaim, .overspeed, .noticeLost]) (by simp)
    unfold State.arrival
    dsimp only
    split
    · exact cleared
    · split
      · exact cleared.trans ((State.raisesOnly_fire _ _ _).mono (by simp))
      · exact cleared
  cases p : s.ptr.p with
  | none =>
    rw [State.pulsed, p]
    exact .of_same rfl rfl
  | some p' =>
    rw [State.pulsed, p]
    exact (State.RaisesOnly.of_same (by simp [State.advance]) (by simp [State.advance])).trans
      ((arrival (s.advance p')).trans (.of_same rfl rfl))

theorem State.mem_standing_expectAnnounce {r : Record} (silent : r.cause ≠ .gaugeSilent)
    (lost : r.cause ≠ .noticeLost) : r ∈ s.expectAnnounce.standing ↔ r ∈ s.standing := by
  have counted : r ∈ (if s.ptr.announceExpected then s.unannouncedPitch else s).standing ↔ r ∈ s.standing := by
    split
    · by_cases eighth : s.ptr.unannounced = 7 ∧ s.ptr.gaugeSilent = false
      · rw [State.unannouncedPitch_of_eighth eighth.1 eighth.2]
        exact State.mem_standing_raise1_of_ne _ silent lost
      · rw [State.unannouncedPitch_of_other eighth]
        rfl
    · rfl
  rw [← counted]
  rw [State.expectAnnounce, State.standing_congr]
  simp

/-! ## HOLD at the end of an event -/

theorem State.settle_hold (s : State) :
    s.settle.ptr.coast = (if s.settle.ptr.holdRead = s.ptr.holdRead then s.ptr.coast else 0) ∧
      (s.settle.crm.blocked = s.crm.blocked → s.settle.ptr.holdRead = s.ptr.holdRead) ∧
      (s.ptr.holdRead = true → s.ptr.holdOthers = true → s.settle.ptr.holdRead = true) ∧
      s.settle.ptr.holdOthers = s.ptr.holdOthers ∧ s.settle.ptr.holdStop = s.ptr.holdStop := by
  have idle : s.reviewIdle.ptr = s.ptr ∧ s.reviewIdle.crm = s.crm := by simp
  rw [State.settle, ← idle.1, ← idle.2]
  generalize s.reviewIdle = u
  have set : ∀ (w : State) b, w.ptr = u.ptr →
      (w.setHoldBlocked b).ptr.coast =
        (if (w.setHoldBlocked b).ptr.holdRead = u.ptr.holdRead then u.ptr.coast else 0) ∧
      (u.ptr.holdRead = true → u.ptr.holdOthers = true → (w.setHoldBlocked b).ptr.holdRead = true) ∧
      (w.setHoldBlocked b).ptr.holdOthers = u.ptr.holdOthers ∧ (w.setHoldBlocked b).ptr.holdStop = u.ptr.holdStop := by
    intro w b ptr
    rw [State.setHoldBlocked, State.readHold_ptr, State.setPtr_ptr, ptr]
    exact ⟨rfl, fun _ others => by simp [others], rfl, rfl⟩
  unfold State.reviewBlocked
  split
  · exact ⟨by simp, fun _ => rfl, fun h _ => h, rfl, rfl⟩
  · next differs =>
    split
    · next now =>
      obtain ⟨coast, both, others, stop⟩ := set ((u.setCrm { u.crm with blocked := true }).raise1 .blocked 0)
        (u.policy (·.holdWhenBlocked)) (by simp)
      exact ⟨coast, fun same => absurd (now.trans (by simpa using same)) differs, both, others, stop⟩
    · next free =>
      obtain ⟨coast, both, others, stop⟩ := set ((u.setCrm { u.crm with blocked := false }).endCondition .blocked)
        false (by simp)
      exact ⟨coast, fun same => absurd ((Bool.eq_false_iff.mpr free).trans (by simpa using same)) differs, both, others, stop⟩

/-- Settles O14: the count of the pulse is what the end of the event, which may change the level read, starts from. -/
theorem forwardPulseCountsTheCoast : Obligations.ForwardPulseCountsTheCoast := by
  intro s run
  refine ⟨_, by rw [exec_forwardPulse_eq, running_of_running _ run, State.forwardPulse_eq], ?_⟩
  have ptr := s.pulsed_ptr
  have expects := s.pulsed.expectAnnounce_does.1
  have drops := s.raisesOnly_pulsed
  have counted := s.pulsed.expectAnnounce.countCoast_does.1
  obtain ⟨coast, level, both, others, stop⟩ := s.pulsed.expectAnnounce.countCoast.settle_hold
  have before : s.pulsed.expectAnnounce.ptr.holdRead = s.ptr.holdRead ∧ s.pulsed.expectAnnounce.ptr.coast = s.ptr.coast ∧
      s.pulsed.expectAnnounce.ptr.holdOthers = s.ptr.holdOthers ∧
      s.pulsed.expectAnnounce.ptr.holdStop = s.ptr.holdStop ∧
      s.pulsed.expectAnnounce.stamp = (s.ptr.p.map (· + 1)).getD 0 := by
    simp [State.stamp, expects, ptr]
  obtain ⟨read, count, others', stop', stamp⟩ := before
  rw [counted] at coast level both others stop
  simp only [read, count, others', stop'] at coast level both others stop
  refine ⟨coast, fun same => level (same.trans ?_), both, others, stop, fun marked fourth => ?_, fun other r mem cause => ?_⟩
  · simp [drops.blocked]
  · rw [State.mem_standing_settle (by simp) (by simp), ← stamp,
      State.countCoast_of_fourth (read.trans marked) (count.trans fourth)]
    exact State.mem_standing_raise1 s.pulsed.expectAnnounce.coastUp .holdOverrun 4
  · have cause' : ∀ {c}, c ≠ .holdOverrun → r.cause ≠ c := fun ne same => ne (same.symm.trans cause)
    rw [State.mem_standing_settle (cause' (by simp)) (cause' (by simp))] at mem
    have same : s.pulsed.expectAnnounce.countCoast.standing = s.pulsed.expectAnnounce.standing := by
      rcases other with open_ | count'
      · rw [State.countCoast_of_open (read.trans open_)]
      · cases marked : s.ptr.holdRead with
        | false => rw [State.countCoast_of_open (read.trans marked)]
        | true =>
          rw [State.countCoast_of_other (read.trans marked) (by rwa [count])]
          rfl
    rw [same, State.mem_standing_expectAnnounce (cause' (by simp)) (cause' (by simp)),
      drops.standing r (by simp [cause])] at mem
    exact mem

end Sys2Proof.Machine
end

section
/-! FORWARD_PULSE and the head of the pending queue (R67, R68, R83 to R86). -/

namespace Sys2Proof.Machine

variable {s t u v : State}

/-! ## Claims whose carrier has passed (R83) -/

/-- How many of the claims are for the cradle. -/
def claimsOn (c : Cradle) (l : List Claim) : Nat := (l.filter (·.cradle = c)).length

theorem claimsOn_cons (c : Cradle) (e : Claim) (l : List Claim) :
    claimsOn c (e :: l) = (if e.cradle = c then 1 else 0) + claimsOn c l := by
  by_cases own : e.cradle = c <;> simp [claimsOn, own, Nat.add_comm]

theorem eq_otherCradle {c d : Cradle} (ne : d ≠ c) : d = otherCradle c := by
  cases c <;> cases d <;> simp_all [otherCradle]

theorem State.posTest_congr (g : Tag) (test : Profile → Nat → Bool) (p : t.ptr.p = s.ptr.p)
    (profile : t.mdc.profile = s.mdc.profile) : t.posTest g test = s.posTest g test := by
  simp only [State.posTest, State.posOf, p, profile]

/-- Where a cradle and the queue stand when `gone` have left the queue, passed, and `rest` is what is left of it. -/
structure State.Cleared (s t : State) (gone rest : List Claim) : Prop where
  drops : t.drc = { s.drc with claims := rest }
  ptr : t.ptr = s.ptr
  profile : t.mdc.profile = s.mdc.profile
  now : t.now = s.now
  stack : ∀ c, (t.cradle c).stack = (s.cradle c).stack
  committed : ∀ c, (t.cradle c).committed = (s.cradle c).committed - claimsOn c gone
  same : ∀ c, claimsOn c gone = 0 → t.cradle c = s.cradle c
  reported : ∀ e ∈ gone.getLast?, ⟨.passedClaim, e.stem.tag, s.stamp⟩ ∈ t.standing

theorem State.cleared_passClaim (s : State) (e : Claim) (rest : List Claim) :
    s.Cleared (s.passClaim e rest) [e] rest := by
  obtain ⟨stack, -, -, committed, other, -⟩ := (s.setDrc { s.drc with claims := rest }).uncommit_keeps e.cradle 1
  have cradle : ∀ d, (s.passClaim e rest).cradle d =
      ((s.setDrc { s.drc with claims := rest }).uncommit e.cradle 1).cradle d := fun d =>
    State.cradle_congr d (by simp [State.passClaim])
  have own : ∀ d, d ≠ e.cradle → (s.passClaim e rest).cradle d = s.cradle d := by
    intro d ne
    rw [cradle, eq_otherCradle ne, other]
    rfl
  refine ⟨by simp [State.passClaim], by simp,
    by simp [State.passClaim, State.reviewIdle_mdc], by simp, fun d => ?_, fun d => ?_, fun d none_ => ?_, ?_⟩
  · by_cases is : d = e.cradle
    · rw [cradle, is, stack]
      rfl
    · rw [own d is]
  · by_cases is : d = e.cradle
    · rw [cradle, is, committed]
      simp [claimsOn]
    · rw [own d is]
      simp [claimsOn, Ne.symm is]
  · refine own d fun is => ?_
    simp [claimsOn, is] at none_
  · intro x mem
    obtain rfl : e = x := by simpa using mem
    have stands := State.mem_standing_raise1 ((s.setDrc { s.drc with claims := rest }).uncommit e.cradle 1).reviewIdle
      .passedClaim e.stem.tag
    rwa [show (((s.setDrc { s.drc with claims := rest }).uncommit e.cradle 1).reviewIdle).stamp = s.stamp by
      simp [State.stamp]] at stands

/-- A head that has not passed stays, with all behind it (R83). -/
theorem State.clearPassed_of_stays (s : State) (rest : List Claim)
    (stays : ∀ e ∈ rest.head?, s.hasPassed e.stem.tag = false) : s.clearPassed rest = s := by
  cases rest with
  | nil => rfl
  | cons e more => simp [State.clearPassed, stays e rfl]

theorem State.cleared_clearPassed (s : State) (gone rest : List Claim) (claims : s.drc.claims = gone ++ rest)
    (passed : ∀ e ∈ gone, s.hasPassed e.stem.tag = true) (stays : ∀ e ∈ rest.head?, s.hasPassed e.stem.tag = false) :
    s.Cleared (s.clearPassed (gone ++ rest)) gone rest := by
  induction gone generalizing s with
  | nil =>
    rw [List.nil_append, s.clearPassed_of_stays rest stays]
    exact ⟨by rw [← show s.drc.claims = rest from claims], rfl, rfl, rfl, fun _ => rfl, fun _ => rfl, fun _ _ => rfl, by simp⟩
  | cons e more ih =>
    have first := s.cleared_passClaim e (more ++ rest)
    have test : ∀ g, (s.passClaim e (more ++ rest)).hasPassed g = s.hasPassed g := fun g =>
      State.posTest_congr g _ (congrArg Tracker.p first.ptr) first.profile
    have still : ∀ x ∈ rest.head?, (s.passClaim e (more ++ rest)).hasPassed x.stem.tag = false :=
      fun x mem => by rw [test, stays x mem]
    have others := ih (s.passClaim e (more ++ rest)) (by rw [first.drops])
      (fun x mem => by rw [test, passed x (.tail _ mem)]) still
    rw [List.cons_append, State.clearPassed, if_pos (passed e (.head _))]
    have stamp : (s.passClaim e (more ++ rest)).stamp = s.stamp := by simp [State.stamp]
    have ones : ∀ c, claimsOn c (e :: more) = claimsOn c [e] + claimsOn c more := fun c => by
      rw [claimsOn_cons, claimsOn_cons]
      simp [claimsOn]
    refine ⟨by rw [others.drops, first.drops], others.ptr.trans first.ptr, others.profile.trans first.profile,
      others.now.trans first.now, fun c => (others.stack c).trans (first.stack c), fun c => ?_, fun c none_ => ?_,
      fun x mem => ?_⟩
    · rw [others.committed, first.committed, ones, Nat.sub_sub]
    · rw [ones, Nat.add_eq_zero_iff] at none_
      rw [others.same c none_.2, first.same c none_.1]
    · cases more with
      | nil =>
        rw [State.clearPassed_of_stays (s.passClaim e ([] ++ rest)) ([] ++ rest) still]
        exact first.reported x mem
      | cons y ys =>
        rw [List.getLast?_cons_cons] at mem
        rw [← stamp]
        exact others.reported x mem

/-! ## The head at the station (R84 to R86) -/

/-- What a fire for the head `e` leaves of the Drop Controller and the cradles. -/
theorem State.fire_does (s : State) (e : Claim) (more : List Claim) :
    ((s.fire e more).drc = { s.drc with
      claims := more, diverter := e.cradle, gate := if s.drc.gateLock then s.drc.gate else some s.now
      falling := if s.drc.falling.length < 4 then s.drc.falling ++ [⟨e, s.now, .waiting⟩] else s.drc.falling }) ∧
    (s.drc.falling.length < 4 → ∀ c, (s.fire e more).cradle c = s.cradle c) ∧
    (∀ c, e.cradle ≠ c → (s.fire e more).cradle c = s.cradle c) ∧
    (4 ≤ s.drc.falling.length →
      ((s.fire e more).cradle e.cradle).stack =
        ⟨e.stem.tag, e.stem.length, e.stem.grade, e.kind, false⟩ :: (s.cradle e.cradle).stack ∧
      ((s.fire e more).cradle e.cradle).committed = (s.cradle e.cradle).committed - 1 ∧
      ⟨.overspeed, e.stem.tag, s.stamp⟩ ∈ (s.fire e more).standing) := by
  rcases Nat.lt_or_ge s.drc.falling.length 4 with room | full
  · rw [State.fire_of_room e more room]
    exact ⟨by rw [if_pos room]; rfl, fun _ _ => rfl, fun _ _ => rfl, fun full => absurd room (Nat.not_lt.mpr full)⟩
  · rw [State.fire_of_full e more full]
    obtain ⟨stack, committed, -, -, other⟩ := (s.aim e more).land_cradle e false
    have cradle : ∀ d, (((s.aim e more).land e false).reviewIdle.raise1 .overspeed e.stem.tag).cradle d =
        ((s.aim e more).land e false).cradle d := fun d => State.cradle_congr d (by simp)
    have stands := State.mem_standing_raise1 ((s.aim e more).land e false).reviewIdle .overspeed e.stem.tag
    rw [show (((s.aim e more).land e false).reviewIdle).stamp = s.stamp by simp [State.stamp, State.aim]] at stands
    refine ⟨by simp [State.aim, Nat.not_lt.mpr full], fun room => absurd room (Nat.not_lt.mpr full), fun d ne => ?_,
      fun _ => ⟨by rw [cradle, stack]; rfl, by rw [cradle, committed]; rfl, stands⟩⟩
    rw [cradle, eq_otherCradle (Ne.symm ne), other]
    rfl

theorem State.Cleared.atStation {gone rest : List Claim} (h : s.Cleared t gone rest) (g : Tag) :
    t.atStation g = s.atStation g :=
  State.posTest_congr g _ (congrArg Tracker.p h.ptr) h.profile

/-- With the passed heads gone, a head not at the station stays (R84). -/
theorem State.arrival_of_stays {gone rest : List Claim} (claims : s.drc.claims = gone ++ rest)
    (cleared : s.Cleared (s.clearPassed (gone ++ rest)) gone rest)
    (away : ∀ e ∈ rest.head?, s.atStation e.stem.tag = false) : s.arrival = s.clearPassed (gone ++ rest) := by
  simp only [State.arrival, claims]
  rw [cleared.drops]
  cases rest with
  | nil => rfl
  | cons e more => simp [cleared.atStation, away e rfl]

/-- With the passed heads gone, a head at the station fires (R84). -/
theorem State.arrival_of_fires {gone more : List Claim} {e : Claim} (claims : s.drc.claims = gone ++ e :: more)
    (cleared : s.Cleared (s.clearPassed (gone ++ e :: more)) gone (e :: more)) (at_ : s.atStation e.stem.tag = true) :
    s.arrival = (s.clearPassed (gone ++ e :: more)).fire e more := by
  simp only [State.arrival, claims]
  rw [cleared.drops]
  simp [cleared.atStation, at_]

/-! ## The rest of the pulse -/

theorem State.forwardPulse_keeps (s : State) :
    s.forwardPulse.drc = s.pulsed.drc ∧ (∀ c, s.forwardPulse.cradle c = s.pulsed.cradle c) ∧
      ∀ r, r.cause = .passedClaim ∨ r.cause = .overspeed → (r ∈ s.forwardPulse.standing ↔ r ∈ s.pulsed.standing) := by
  rw [State.forwardPulse_eq]
  refine ⟨by simp, fun c => (State.settle_cradle _ c).trans (State.cradle_congr c (by simp)), fun r drop => ?_⟩
  have other : ∀ c, c ≠ .passedClaim → c ≠ .overspeed → r.cause ≠ c := fun c a b is => by
    rcases drop with h | h
    · exact a (is.symm.trans h)
    · exact b (is.symm.trans h)
  have counted : r ∈ s.pulsed.expectAnnounce.countCoast.standing ↔ r ∈ s.pulsed.expectAnnounce.standing := by
    cases read : s.pulsed.expectAnnounce.ptr.holdRead with
    | false => rw [State.countCoast_of_open read]
    | true =>
      by_cases fourth : s.pulsed.expectAnnounce.ptr.coast = 3
      · rw [State.countCoast_of_fourth read fourth]
        exact State.mem_standing_raise1_of_ne _ (other _ (by simp) (by simp)) (other _ (by simp) (by simp))
      · rw [State.countCoast_of_other read fourth]
        rfl
  rw [State.mem_standing_settle (other _ (by simp) (by simp)) (other _ (by simp) (by simp)), counted,
    State.mem_standing_expectAnnounce (other _ (by simp) (by simp)) (other _ (by simp) (by simp))]

/-- Settles O15: the passed heads leave, and the head left behind them stays or fires. -/
theorem forwardPulseServesTheHead : Obligations.ForwardPulseServesTheHead := by
  intro s p f gone rest run synced profile claims passed stays goneFrom
  refine ⟨_, by rw [exec_forwardPulse_eq, running_of_running _ run], ?_⟩
  obtain ⟨mode, -⟩ := s.along_pulsed.pulse s.pulseList_same
  rw [← State.forwardPulse_eq] at mode
  obtain ⟨drops, cradle, stands⟩ := s.forwardPulse_keeps
  generalize s.forwardPulse = t at *
  have arrives : s.pulsed = (s.advance p).arrival.expire := by rw [State.pulsed, synced]
  have test : ∀ g test, (s.advance p).posTest g test = test f (pos (p + 1) g) := fun g test => by
    simp [State.posTest, State.posOf, State.advance, profile]
  have cleared := (s.advance p).cleared_clearPassed gone rest (by simpa [State.advance] using claims)
    (fun e mem => by simpa [State.hasPassed, test] using passed e mem)
    (fun e mem => by
      have := stays e mem
      simp only [State.hasPassed, test, Bool.and_eq_false_iff, decide_eq_false_iff_not]
      omega)
  have stays' := State.arrival_of_stays (by simpa [State.advance] using claims) cleared
  have fires := fun e more (is : rest = e :: more) => State.arrival_of_fires (s := s.advance p) (gone := gone) (e := e)
    (more := more) (by simpa [State.advance, is] using claims) (by simpa only [← is] using cleared)
  have start : ∀ c, (s.advance p).cradle c = s.cradle c := fun c => rfl
  have stamp : (s.advance p).stamp = p + 1 := by simp [State.stamp, State.advance]
  simp only [State.atStation, test] at stays' fires
  have counts : ∀ c, goneFrom c = claimsOn c gone := fun c => rfl
  by_cases here : ∀ e ∈ rest.head?, pos (p + 1) e.stem.tag ≠ f.d
  · have same : s.pulsed = ((s.advance p).clearPassed (gone ++ rest)).expire := by
      rw [arrives, stays' fun e mem => by simpa using here e mem]
    rw [same] at drops cradle stands
    generalize (s.advance p).clearPassed (gone ++ rest) = u at *
    have drops' : t.drc = { s.drc with claims := rest } := drops.trans cleared.drops
    refine ⟨by rw [drops'], fun e mem => ?_, fun c none_ _ => (cradle c).trans (cleared.same c none_), mode, fun _ =>
      ⟨drops', fun c => ⟨?_, ?_⟩⟩, fun e more is at_ => absurd at_ (here e (by rw [is]; rfl))⟩
    · rw [stands _ (.inl rfl), ← stamp]
      exact cleared.reported e mem
    · rw [cradle]
      exact cleared.stack c
    · rw [cradle, counts]
      exact cleared.committed c
  · push Not at here
    obtain ⟨e, head, at_⟩ := here
    obtain ⟨more, rfl⟩ : ∃ more, rest = e :: more := by
      cases rest with
      | nil => simp at head
      | cons x more => exact ⟨more, by rw [Option.some.inj head]⟩
    have same : s.pulsed = (((s.advance p).clearPassed (gone ++ e :: more)).fire e more).expire := by
      rw [arrives, fires e more rfl (by simpa using at_)]
    rw [same] at drops cradle stands
    generalize (s.advance p).clearPassed (gone ++ e :: more) = u at *
    obtain ⟨fdrc, froom, fother, ffull⟩ := u.fire_does e more
    have falling : u.drc.falling.length = s.drc.falling.length := by rw [cleared.drops]; rfl
    rw [falling] at froom ffull
    have now : u.now = s.now := cleared.now
    have drops' : t.drc = { s.drc with
        claims := more, diverter := e.cradle, gate := if s.drc.gateLock then s.drc.gate else some s.now
        falling := if s.drc.falling.length < 4 then s.drc.falling ++ [⟨e, s.now, .waiting⟩] else s.drc.falling } := by
      rw [drops, show ∀ w : State, w.expire.drc = w.drc from fun _ => rfl, fdrc, cleared.drops, now]
      rfl
    have level : u.stamp = p + 1 := by
      rw [← stamp, State.stamp, cleared.ptr]
      rfl
    refine ⟨by rw [drops'], fun x mem => ?_, fun c none_ free => ?_, mode, fun never => absurd at_ (never e rfl), ?_⟩
    · rw [stands _ (.inl rfl), ← stamp]
      exact ((u.raisesOnly_fire e more).standing _ (by simp)).mpr (cleared.reported x mem)
    · rw [cradle]
      exact ((free e rfl).elim (fother c) fun room => froom room c).trans (cleared.same c none_)
    · intro x l is _
      obtain ⟨rfl, rfl⟩ := List.cons.inj is
      refine ⟨by rw [drops'], by rw [drops'], by rw [drops'], fun room => ⟨by rw [drops', if_pos room], fun c => ?_⟩,
        fun full => ?_⟩
      · rw [cradle, show ∀ w : State, w.expire.cradle c = w.cradle c from fun _ => rfl, froom room, counts]
        exact ⟨cleared.stack c, cleared.committed c⟩
      · obtain ⟨stack, committed, stood⟩ := ffull full
        have other := (cradle (otherCradle e.cradle)).trans (fother _ (otherCradle_ne e.cradle).symm)
        have own : t.cradle e.cradle = (u.fire e more).cradle e.cradle := cradle e.cradle
        rw [level] at stood
        refine ⟨by rw [drops', if_neg (Nat.not_lt.mpr full)], ?_, ?_, ?_, ?_, (stands _ (.inr rfl)).mpr stood⟩
        · rw [own, stack, cleared.stack]
          rfl
        · rw [own, committed, cleared.committed]
          rfl
        · rw [other]
          exact cleared.stack _
        · rw [other]
          exact cleared.committed _

end Sys2Proof.Machine
end

section
/-! The books of one cradle (R35, R56, R58 to R60, R67 to R70): its record against its recipe and the stems it counts,
as a property of these three alone. -/

namespace Sys2Proof.Machine

/-! ## Envelopes -/

theorem widen_comm (e : Option Envelope) (a b : Nat) : widen (some (widen e a)) b = widen (some (widen e b)) a := by
  cases e with
  | none => simp [widen, Nat.min_comm, Nat.max_comm]
  | some e => simp [widen, Nat.min_assoc, Nat.max_assoc, Nat.min_comm a b, Nat.max_comm a b]

theorem envelopeOf_perm {l m : List Nat} (h : l.Perm m) : envelopeOf l = envelopeOf m :=
  h.foldl_eq' (fun a _ b _ e => congrArg some (widen_comm e a b)) none

theorem envelopeOf_concat (l : List Nat) (a : Nat) : envelopeOf (l ++ [a]) = some (widen (envelopeOf l) a) := by
  simp [envelopeOf, List.foldl_append]

theorem envelopeOf_cons (a : Nat) (l : List Nat) : envelopeOf (a :: l) = some (widen (envelopeOf l) a) := by
  rw [← envelopeOf_concat]
  exact envelopeOf_perm (List.perm_append_singleton a l).symm

/-- An envelope spans the lengths it is worked out over, and both its ends are among them (R59). -/
theorem envelopeOf_spans {l : List Nat} {e : Envelope} (h : envelopeOf l = some e) :
    (∀ a ∈ l, e.least ≤ a ∧ a ≤ e.greatest) ∧ e.least ∈ l ∧ e.greatest ∈ l := by
  induction l generalizing e with
  | nil => simp [envelopeOf] at h
  | cons a l ih =>
    rw [envelopeOf_cons] at h
    injection h with h
    subst h
    cases k : envelopeOf l with
    | none =>
      cases l with
      | nil => simp [widen]
      | cons b l => rw [envelopeOf_cons] at k; exact absurd k (by simp)
    | some d =>
      obtain ⟨spans, least, greatest⟩ := ih k
      refine ⟨fun b m => ?_, ?_, ?_⟩
      · rcases List.mem_cons.mp m with rfl | m
        · simp [widen]
        · have := spans b m
          simp only [widen]
          omega
      · simp only [widen]
        rcases Nat.le_total d.least a with le | le
        · rw [Nat.min_eq_left le]; exact List.mem_cons_of_mem _ least
        · rw [Nat.min_eq_right le]; exact List.mem_cons_self
      · simp only [widen]
        rcases Nat.le_total d.greatest a with le | le
        · rw [Nat.max_eq_right le]; exact List.mem_cons_self
        · rw [Nat.max_eq_left le]; exact List.mem_cons_of_mem _ greatest

@[simp] theorem envelopeOf_nil : envelopeOf [] = none := rfl

theorem envelopeOf_eq_none_iff {l : List Nat} : envelopeOf l = none ↔ l = [] := by
  cases l with
  | nil => simp
  | cons a l => simp [envelopeOf_cons]

/-- An envelope over fewer lengths fits where the one over more does (R60). -/
theorem Recipe.fits_of_subset {x : Recipe} {l m : List Nat} {d e : Envelope} (sub : l ⊆ m)
    (hd : envelopeOf l = some d) (he : envelopeOf m = some e) (fits : x.fits e = true) : x.fits d = true := by
  obtain ⟨spans, -, -⟩ := envelopeOf_spans he
  obtain ⟨-, least, greatest⟩ := envelopeOf_spans hd
  obtain ⟨low, -⟩ := spans _ (sub least)
  obtain ⟨-, high⟩ := spans _ (sub greatest)
  rw [Recipe.fits, Bool.or_eq_true] at fits ⊢
  refine fits.imp_right fun le => decide_eq_true (Nat.le_trans ?_ (of_decide_eq_true le))
  exact Nat.sub_le_sub_right high _ |>.trans (Nat.sub_le_sub_left low _)

/-! ## Recipes as the tests read them -/

/-- A recipe but for its counts and its state: what the tests of a stem read (R20, R21, R35). -/
def Recipe.core (x : Recipe) : Recipe := { x with exhausted := false, made := 0, inProgress := 0 }

theorem Recipe.core_tests {x y : Recipe} (h : x.core = y.core) :
    x.n = y.n ∧ x.q = y.q ∧ (∀ e, x.fits e = y.fits e) ∧ (∀ l, x.suitsLanded l = y.suitsLanded l) ∧
      ∀ st, x.stemTest st = y.stemTest st := by
  have n := congrArg Recipe.n h
  have q := congrArg Recipe.q h
  have low := congrArg Recipe.low h
  have high := congrArg Recipe.high h
  have mask := congrArg Recipe.gradeMask h
  have head := congrArg Recipe.acceptHead h
  have bent := congrArg Recipe.acceptBent h
  have s := congrArg Recipe.s h
  simp only [Recipe.core] at n q low high mask head bent s
  refine ⟨n, q, fun e => ?_, fun l => ?_, fun st => ?_⟩
  · simp [Recipe.fits, s]
  · simp [Recipe.suitsLanded, Recipe.takesGrade, low, high, mask]
  · simp [Recipe.stemTest, Recipe.takesGrade, Recipe.takesFlags, low, high, mask, head, bent]

/-- A stem that passes the stem test may be claimed, and suits the recipe when it has landed (R20, R21, R32). -/
theorem Recipe.claimable_of_stemTest {x : Recipe} {st : Stem} (h : x.stemTest st = true) : claimableStem st := by
  simp only [Recipe.stemTest, Recipe.takesFlags, Bool.and_eq_true, decide_eq_true_eq] at h
  obtain ⟨⟨⟨⟨low, -⟩, -⟩, -⟩, ⟨-, double⟩⟩ := h
  exact ⟨low, by simpa using double⟩

theorem Recipe.suitsLanded_of_stemTest {x : Recipe} {e : Claim} (verified : Bool)
    (h : x.stemTest e.stem = true) : x.suitsLanded (e.landed verified) = true := by
  simp only [Recipe.stemTest, Bool.and_eq_true] at h
  obtain ⟨⟨⟨⟨one, low⟩, high⟩, grade⟩, -⟩ := h
  simp only [Recipe.suitsLanded, Claim.landed, Bool.and_eq_true]
  exact ⟨⟨⟨one, low⟩, high⟩, grade⟩

/-! ## The books of a cradle -/

/-- The lengths of a list of claims. -/
def claimLengths (l : List Claim) : List Nat := l.map (·.stem.length.val)

/-- The books of a cradle record, given its recipe and the claims it counts as committed. -/
structure CradleRec.Booked (r : CradleRec) (o : Option Recipe) (mine : List Claim) : Prop where
  shape : r.shape (o.map (·.n)) = true
  committed : r.committed = mine.length
  envelope : r.envelope = envelopeOf (r.stack.map (·.length.val) ++ claimLengths mine)
  fits : ∀ x ∈ o, ∀ e ∈ r.envelope, x.fits e = true
  suits : ∀ x ∈ o, ∀ l ∈ r.stack, x.suitsLanded l = true
  stems : ∀ x ∈ o, ∀ e ∈ mine, x.stemTest e.stem = true

theorem CradleRec.Booked.perm {r : CradleRec} {o : Option Recipe} {l m : List Claim} (h : r.Booked o l)
    (p : l.Perm m) : r.Booked o m where
  shape := h.shape
  committed := h.committed.trans p.length_eq
  envelope := by
    rw [h.envelope]
    exact envelopeOf_perm ((p.map _).append_left _)
  fits := h.fits
  suits := h.suits
  stems := fun x m e n => h.stems x m e (p.mem_iff.mpr n)

/-- The counts of a recipe are no concern of its cradle. -/
theorem CradleRec.Booked.recipe {r : CradleRec} {o o' : Option Recipe} {l : List Claim} (h : r.Booked o l)
    (same : o'.map Recipe.core = o.map Recipe.core) : r.Booked o' l := by
  cases o with
  | none =>
    have : o' = none := by simpa using same
    rwa [this]
  | some x =>
    cases o' with
    | none => simp at same
    | some y =>
      obtain ⟨n, -, fits, suits, stems⟩ := Recipe.core_tests (by simpa using same)
      refine ⟨?_, h.committed, h.envelope, ?_, ?_, ?_⟩
      · simpa [n] using h.shape
      · simpa [fits] using h.fits
      · simpa [suits] using h.suits
      · simpa [stems] using h.stems

/-! ## The shapes -/

/-- A building cradle is bound, with room left or a stem still to land, and neither timer nor completion (R58). -/
theorem CradleRec.shape_building {r : CradleRec} {o : Option Nat} (h : r.shape o = true)
    (building : r.building = true) :
    ∃ n, o = some n ∧ 1 ≤ r.k ∧ r.k ≤ n ∧ r.stack.length < n ∧ (r.state = .filling → r.k < n) ∧
      r.removal = none ∧ r.completion = none := by
  cases o with
  | none =>
    cases state : r.state <;> simp [CradleRec.building, CradleRec.shape, state] at h building
  | some n =>
    cases state : r.state with
    | filling =>
      simp only [CradleRec.shape, state, Bool.and_eq_true, decide_eq_true_eq, Option.isNone_iff_eq_none] at h
      obtain ⟨⟨⟨one, room⟩, removal⟩, completion⟩ := h
      simp only [CradleRec.k] at one room
      exact ⟨n, rfl, one, room.le, by omega, fun _ => room, removal, completion⟩
    | closing =>
      simp only [CradleRec.shape, state, Bool.and_eq_true, decide_eq_true_eq, beq_iff_eq,
        Option.isNone_iff_eq_none] at h
      obtain ⟨⟨⟨full, one⟩, removal⟩, completion⟩ := h
      simp only [CradleRec.k] at full
      exact ⟨n, rfl, by rw [CradleRec.k]; omega, by rw [CradleRec.k]; omega, by omega, by simp, removal, completion⟩
    | _ => simp [CradleRec.building, state] at building

/-- A cradle that is not building counts no committed stem (R58, R64, R70). -/
theorem CradleRec.committed_of_not_building {r : CradleRec} {o : Option Nat} (h : r.shape o = true)
    (idle : r.building = false) : r.committed = 0 := by
  cases o <;> cases state : r.state <;> simp [CradleRec.building, CradleRec.shape, state] at h idle <;> simp [h]

/-- A cradle that is ABSENT, STALE or EMPTY is bound to nothing and counts nothing (R56, R58, R64). -/
theorem CradleRec.shape_unbound {r : CradleRec} {o : Option Nat} (h : r.shape o = true)
    (state : r.state = .absent ∨ r.state = .stale ∨ r.state = .empty) :
    o = none ∧ r.recipe = none ∧ r.stack = [] ∧ r.committed = 0 ∧ r.removal = none ∧ r.completion = none := by
  cases o <;> rcases state with e | e | e <;> simp [CradleRec.shape, e] at h <;> simp [h]

theorem CradleRec.shape_filling {r : CradleRec} {n : Nat} (state : r.state = .filling) (one : 1 ≤ r.k)
    (room : r.k < n) (removal : r.removal = none) (completion : r.completion = none) :
    r.shape (some n) = true := by
  simp [CradleRec.shape, state, one, room, removal, completion]

theorem CradleRec.shape_closing {r : CradleRec} {n : Nat} (state : r.state = .closing) (full : r.k = n)
    (one : 1 ≤ r.committed) (removal : r.removal = none) (completion : r.completion = none) :
    r.shape (some n) = true := by
  simp [CradleRec.shape, state, one, full, removal, completion]

/-- A record with nothing in it is booked while ABSENT, STALE or EMPTY (R56, R64, R72). -/
theorem CradleRec.booked_unbound {r : CradleRec} (state : r.state = .absent ∨ r.state = .stale ∨ r.state = .empty)
    (recipe : r.recipe = none) (stack : r.stack = []) (committed : r.committed = 0) (envelope : r.envelope = none)
    (removal : r.removal = none) (completion : r.completion = none) : r.Booked none [] where
  shape := by
    rcases state with e | e | e <;>
      simp [CradleRec.shape, e, recipe, stack, committed, removal, completion]
  committed := committed
  envelope := by simp [stack, envelope, claimLengths]
  fits := fun x m => absurd m (by simp)
  suits := fun x m => absurd m (by simp)
  stems := fun x m => absurd m (by simp)

/-! ## Lost stems (R60, R68, R69) -/

/-- What a bound cradle becomes after a loss, given the envelope worked out afresh (R60, R68, R69). -/
def CradleRec.lose (r : CradleRec) (e : Option Envelope) : CradleRec :=
  if r.building = true then
    if r.k = 0 then { r with state := .empty, recipe := none, envelope := none }
    else { r with state := .filling, envelope := e }
  else r

/-- A building cradle that has lost a stem and counts another is FILLING, with its envelope over what is left. -/
theorem CradleRec.booked_lose {r q : CradleRec} {o : Option Recipe} {l m : List Claim} (h : r.Booked o l)
    (building : r.building = true) (left : q = { r with stack := q.stack, committed := q.committed })
    (committed : q.committed = m.length) (less : q.k < r.k) (some_ : q.k ≠ 0) (stack : q.stack ⊆ r.stack)
    (sub : m ⊆ l) :
    (q.lose (envelopeOf (q.stack.map (·.length.val) ++ claimLengths m))).Booked o m := by
  obtain ⟨n, bound, -, le, -, -, removal, completion⟩ := CradleRec.shape_building h.shape building
  have qBuilding : q.building = true := by rw [left]; exact building
  rw [CradleRec.lose, if_pos qBuilding, if_neg some_]
  have subset : q.stack.map (·.length.val) ++ claimLengths m ⊆ r.stack.map (·.length.val) ++ claimLengths l := by
    refine List.append_subset.mpr ⟨?_, ?_⟩
    · exact List.Subset.trans (List.map_subset _ stack) (List.subset_append_left _ _)
    · exact List.Subset.trans (List.map_subset _ sub) (List.subset_append_right _ _)
  exact
    { shape := by
        rw [bound]
        refine CradleRec.shape_filling rfl (Nat.pos_of_ne_zero some_) (lt_of_lt_of_le less le) ?_ ?_
        · show q.removal = none
          rw [left]
          exact removal
        · show q.completion = none
          rw [left]
          exact completion
      committed := committed
      envelope := rfl
      fits := fun x m e k => by
        have fits := h.fits x m
        rw [h.envelope] at fits
        cases whole : envelopeOf (r.stack.map (·.length.val) ++ claimLengths l) with
        | none =>
          rw [envelopeOf_eq_none_iff] at whole
          rw [whole] at subset
          have none := envelopeOf_eq_none_iff.mpr (List.subset_nil.mp subset)
          exact absurd (none.symm.trans k) (by simp)
        | some d => exact Recipe.fits_of_subset subset k whole (fits d whole)
      suits := fun x m l k => h.suits x m l (stack k)
      stems := fun x m e k => h.stems x m e (sub k) }

/-- A building cradle that has lost its last stem is EMPTY and unbound (R69). -/
theorem CradleRec.booked_lose_last {r q : CradleRec} {o : Option Recipe} {l : List Claim} (h : r.Booked o l)
    (building : r.building = true) (left : q = { r with stack := q.stack, committed := q.committed })
    (none_ : q.k = 0) (e : Option Envelope) : (q.lose e).Booked none [] ∧ (q.lose e).recipe = none := by
  obtain ⟨n, bound, -, -, -, -, removal, completion⟩ := CradleRec.shape_building h.shape building
  have qBuilding : q.building = true := by rw [left]; exact building
  have empty : q.stack = [] ∧ q.committed = 0 := by
    simpa [CradleRec.k, List.length_eq_zero_iff] using none_
  rw [CradleRec.lose, if_pos qBuilding, if_pos none_]
  refine ⟨CradleRec.booked_unbound (.inr (.inr rfl)) rfl empty.1 empty.2 rfl ?_ ?_, rfl⟩
  · show q.removal = none
    rw [left]
    exact removal
  · show q.completion = none
    rw [left]
    exact completion

/-! ## A landing (R67, R70) -/

/-- A landed stem moves from the committed to the stacked ones (R67); with N of them the bunch is FULL (R70). -/
theorem CradleRec.Booked.land {r : CradleRec} {x : Recipe} {e : Claim} {m : List Claim} (h : r.Booked (some x) (e :: m))
    (verified : Bool) :
    let q := { r with stack := e.landed verified :: r.stack, committed := r.committed - 1 }
    (q.stack.length ≠ x.n → q.Booked (some x) m) ∧
      (q.stack.length = x.n → ∀ since,
        ({ q with state := .complete, completion := some .full, removal := some since } : CradleRec).Booked
          (some x) m) ∧ r.building = true := by
  have committed : r.committed = m.length + 1 := h.committed
  have building : r.building = true := by
    cases b : r.building with
    | true => rfl
    | false => exact absurd (CradleRec.committed_of_not_building h.shape b) (by omega)
  obtain ⟨n, bound, one, le, room, filling, removal, completion⟩ := CradleRec.shape_building h.shape building
  have sameN : x.n = n := by simpa using bound
  have k : r.k = r.stack.length + r.committed := rfl
  have envelope : r.envelope =
      envelopeOf ((e.landed verified :: r.stack).map (·.length.val) ++ claimLengths m) := by
    rw [h.envelope]
    refine envelopeOf_perm ?_
    simp [claimLengths, Claim.landed, List.perm_middle]
  have suits : ∀ y ∈ some x, ∀ l ∈ e.landed verified :: r.stack, y.suitsLanded l = true := by
    intro y my l ml
    rcases List.mem_cons.mp ml with rfl | ml
    · exact Recipe.suitsLanded_of_stemTest verified (h.stems y my e (by simp))
    · exact h.suits y my l ml
  have stems : ∀ y ∈ some x, ∀ d ∈ m, y.stemTest d.stem = true := fun y my d md =>
    h.stems y my d (by simp [md])
  refine ⟨fun more => ⟨?_, by simp [committed], envelope, h.fits, suits, stems⟩,
    fun full since => ⟨?_, by simp [committed], envelope, h.fits, suits, stems⟩, building⟩
  · have stack : r.stack.length + 1 ≠ x.n := by simpa using more
    rw [Option.map_some, sameN]
    cases state : r.state with
    | filling =>
      refine CradleRec.shape_filling rfl ?_ ?_ removal completion <;>
        (have := filling state; simp only [CradleRec.k, List.length_cons]; omega)
    | closing =>
      have shape := h.shape
      simp only [CradleRec.shape, state, Option.map_some, Bool.and_eq_true, beq_iff_eq] at shape
      obtain ⟨⟨⟨full, -⟩, -⟩, -⟩ := shape
      refine CradleRec.shape_closing rfl ?_ ?_ removal completion <;>
        (simp only [CradleRec.k, List.length_cons] at full ⊢; omega)
    | _ => simp [CradleRec.building, state] at building
  · have stack : r.stack.length + 1 = x.n := by simpa using full
    simp [CradleRec.shape, stack]
    omega

/-! ## A bunch closed short (R76) -/

/-- A building cradle with a stack may close SHORT, its committed stems forfeited (R70, R76). -/
theorem CradleRec.Booked.closeShort {r : CradleRec} {o : Option Recipe} {l : List Claim} (h : r.Booked o l)
    (building : r.building = true) (stack : r.stack ≠ []) (since : Nat) :
    ({ r with committed := 0, envelope := envelopeOf (r.stack.map (·.length.val)), state := .complete
              completion := some .short, removal := some since } : CradleRec).Booked o [] := by
  obtain ⟨n, bound, -, -, room, -⟩ := CradleRec.shape_building h.shape building
  have some_ : 1 ≤ r.stack.length := List.length_pos_iff.mpr stack
  exact
    { shape := by
        rw [bound]
        simp [CradleRec.shape, room, some_]
      committed := rfl
      envelope := by simp [claimLengths]
      fits := fun x m e k => by
        have fits := h.fits x m
        rw [h.envelope] at fits
        have sub : r.stack.map (·.length.val) ⊆ r.stack.map (·.length.val) ++ claimLengths l :=
          List.subset_append_left _ _
        cases whole : envelopeOf (r.stack.map (·.length.val) ++ claimLengths l) with
        | none =>
          rw [envelopeOf_eq_none_iff] at whole
          rw [whole] at sub
          have none := envelopeOf_eq_none_iff.mpr (List.subset_nil.mp sub)
          exact absurd (none.symm.trans k) (by simp)
        | some d => exact Recipe.fits_of_subset sub k whole (fits d whole)
      suits := h.suits
      stems := fun x m e k => absurd k (by simp) }

/-! ## A commit (R47, R48, R66) -/

/-- A FILLING cradle takes a stem its recipe takes and its spread limit allows (R47). -/
theorem CradleRec.Booked.commitFilling {r : CradleRec} {x : Recipe} {l : List Claim} (h : r.Booked (some x) l)
    {c : Candidate} (state : r.state = .filling) (filling : c.opening = false)
    (stem : x.stemTest c.stem = true) (fits : x.fits (widen r.envelope c.stem.length.val) = true) :
    (r.commit c x.n).Booked (some x) (⟨c.stem, c.cradle, c.kind⟩ :: l) ∧ (r.commit c x.n).recipe = r.recipe := by
  have building : r.building = true := by simp [CradleRec.building, state]
  obtain ⟨n, bound, one, -, -, room, removal, completion⟩ := CradleRec.shape_building h.shape building
  have sameN : x.n = n := by simpa using bound
  have less := room state
  have k : r.k = r.stack.length + r.committed := rfl
  have envelope : some (widen r.envelope c.stem.length.val) =
      envelopeOf (r.stack.map (·.length.val) ++ claimLengths (⟨c.stem, c.cradle, c.kind⟩ :: l)) := by
    rw [h.envelope, ← envelopeOf_cons]
    exact envelopeOf_perm List.perm_middle.symm
  simp only [CradleRec.commit, filling, Bool.false_eq_true, if_false]
  refine ⟨⟨?_, by simp [h.committed], envelope, ?_, h.suits, ?_⟩, trivial⟩
  · rw [Option.map_some]
    split
    · rename_i full
      exact CradleRec.shape_closing rfl full (by simp) removal completion
    · rename_i more
      refine CradleRec.shape_filling rfl ?_ ?_ removal completion <;>
        (simp only [CradleRec.k] at more ⊢; omega)
  · intro y my e me
    have same : y = x := by simpa [eq_comm] using my
    have span : e = widen r.envelope c.stem.length.val := by simpa [eq_comm] using me
    rw [same, span, fits]
  · intro y my e me
    rcases List.mem_cons.mp me with rfl | me
    · have same : y = x := by simpa [eq_comm] using my
      rw [same, stem]
    · exact h.stems y my e me

theorem Recipe.fits_widen_none (x : Recipe) (l : Nat) : x.fits (widen none l) = true := by
  simp [Recipe.fits, widen, Envelope.spread]

/-- An EMPTY cradle opens with a stem for a recipe that takes it (R48). -/
theorem CradleRec.Booked.commitOpening {r : CradleRec} {o : Option Recipe} {l : List Claim} (h : r.Booked o l)
    {c : Candidate} {x : Recipe} (state : r.state = .empty) (opening : c.opening = true) (one : 1 ≤ x.n)
    (stem : x.stemTest c.stem = true) :
    (r.commit c x.n).Booked (some x) [⟨c.stem, c.cradle, c.kind⟩] ∧ (r.commit c x.n).recipe = some c.recipe ∧
      l = [] := by
  obtain ⟨-, -, stack, committed, removal, completion⟩ := CradleRec.shape_unbound h.shape (.inr (.inr state))
  have none_ : l = [] := List.length_eq_zero_iff.mp (h.committed.symm.trans committed)
  simp only [CradleRec.commit, opening, if_true]
  refine ⟨⟨?_, rfl, by simp [stack, claimLengths, envelopeOf], ?_, by simp [stack], ?_⟩, trivial, none_⟩
  · rw [Option.map_some]
    split
    · rename_i full
      exact CradleRec.shape_closing rfl full (by simp) removal completion
    · rename_i more
      refine CradleRec.shape_filling rfl ?_ ?_ removal completion <;>
        (simp only [CradleRec.k, stack, List.length_nil] at more ⊢; omega)
  · intro y my e me
    have span : e = widen none c.stem.length.val := by simpa [eq_comm] using me
    rw [span]
    exact y.fits_widen_none _
  · intro y my e me
    have same : y = x := by simpa [eq_comm] using my
    have sameE : e = ⟨c.stem, c.cradle, c.kind⟩ := by simpa using me
    rw [same, sameE, stem]

end Sys2Proof.Machine
end

section
/-! What the books say in the words of the spec (R59, R100). -/

namespace Sys2Proof.Machine

/-- Each entry of a list is for one of the two cradles. -/
theorem length_filter_cradles {α : Type} (f : α → Cradle) (l : List α) :
    (l.filter (f · = .a)).length + (l.filter (f · = .b)).length = l.length := by
  induction l with
  | nil => rfl
  | cons x l ih =>
    cases at_ : f x <;> simp only [List.filter_cons, at_, reduceCtorEq, decide_true, decide_false, if_true,
      Bool.false_eq_true, if_false, List.length_cons, ← ih] <;> omega

theorem Books.cradle {s : State} (h : Books s) (c : Cradle) : cradleBooks s c := by
  obtain ⟨a, b, -⟩ := h
  cases c
  · exact a
  · exact b

/-- Settles O9: each count is of one cradle's entries, and the envelope that fits spans every length counted. -/
theorem soundBooksKeepCountAndSpread : Obligations.SoundBooksKeepCountAndSpread := by
  intro s c x l m ⟨books, _⟩
  refine ⟨?_, fun bound limit hl hm => ?_⟩
  · obtain ⟨-, a, -⟩ := books.cradle .a
    obtain ⟨-, b, -⟩ := books.cradle .b
    have claims := length_filter_cradles (·.cradle) s.drc.claims
    have falling := length_filter_cradles (·.claim.cradle) s.drc.falling
    simp only [State.cradle, State.claimCount, State.fallingCount] at a b
    omega
  · obtain ⟨-, -, envelope, fits⟩ := books.cradle c
    obtain ⟨fits, -⟩ := fits x bound
    have now : (s.cradle c).envelope = envelopeOf (s.lengths c) := envelope
    cases e : envelopeOf (s.lengths c) with
    | none => simp [envelopeOf_eq_none_iff.mp e] at hl
    | some e' =>
      obtain ⟨spans, -⟩ := envelopeOf_spans e
      have within := fits e' (by rw [now, e]; rfl)
      obtain ⟨-, high⟩ := spans l hl
      obtain ⟨low, -⟩ := spans m hm
      rw [Recipe.fits, Bool.or_eq_true, beq_iff_eq] at within
      have spread := of_decide_eq_true (within.resolve_left limit)
      exact Nat.le_trans ((Nat.sub_le_sub_right high m).trans (Nat.sub_le_sub_left low _)) spread

end Sys2Proof.Machine
end

section
/-! The queue of waiting commands is no concern of any command (log 18): each operation commutes with a change of it. -/

namespace Sys2Proof.Machine

variable (s : State) (l : List Instr)

/-! ## The setters and the tests -/

@[simp] theorem State.setters_setPending :
    (∀ x, (s.setPending l).setPtr x = (s.setPtr x).setPending l) ∧
    (∀ x, (s.setPending l).setRct x = (s.setRct x).setPending l) ∧
    (∀ x, (s.setPending l).setClu x = (s.setClu x).setPending l) ∧
    (∀ x, (s.setPending l).setRol x = (s.setRol x).setPending l) ∧
    (∀ x, (s.setPending l).setDrc x = (s.setDrc x).setPending l) ∧
    (∀ x, (s.setPending l).setCrm x = (s.setCrm x).setPending l) ∧
    (∀ x, (s.setPending l).setAlc x = (s.setAlc x).setPending l) ∧
    (∀ x, (s.setPending l).setLbi x = (s.setLbi x).setPending l) ∧
    (∀ x, (s.setPending l).setMdc x = (s.setMdc x).setPending l) ∧
    (∀ x, (s.setPending l).setInputs x = (s.setInputs x).setPending l) ∧
    (∀ x, (s.setPending l).setNow x = (s.setNow x).setPending l) ∧
    (∀ x, (s.setPending l).setInReset x = (s.setInReset x).setPending l) := by
  and_intros <;> intros <;> rfl

@[simp] theorem State.tests_setPending :
    (∀ (p : Pin), (s.setPending l).qualifier p = s.qualifier p) ∧
    (∀ (t : Tag), (s.setPending l).atStation t = s.atStation t) ∧
    (∀ (t : Tag), (s.setPending l).hasPassed t = s.hasPassed t) ∧
    (∀ (t : Tag), (s.setPending l).expired t = s.expired t) ∧
    (s.setPending l).number = s.number ∧
    (∀ (f : Profile → Bool), (s.setPending l).policy f = s.policy f) ∧
    (∀ (f : Profile → Nat), (s.setPending l).profileTime f = s.profileTime f) ∧
    (∀ (c : Cradle), (s.setPending l).cradle c = s.cradle c) ∧
    (∀ (c : CradleRec), (s.setPending l).boundRecipe c = s.boundRecipe c) ∧
    (∀ (kind : RoundKind) (st : Stem), (s.setPending l).choose kind st = s.choose kind st) ∧
    (∀ (t : Tag), (s.setPending l).hasClaim t = s.hasClaim t) ∧
    (∀ (t : Tag), (s.setPending l).hasReoffer t = s.hasReoffer t) ∧
    (∀ (kind : RoundKind) (st : Stem), (s.setPending l).eligible kind st = s.eligible kind st) ∧
    (s.setPending l).level = s.level ∧
    (s.setPending l).someStale = s.someStale ∧
    (s.setPending l).blockedNow = s.blockedNow ∧
    (s.setPending l).idleNow = s.idleNow ∧
    (s.setPending l).startPoint = s.startPoint ∧
    (s.setPending l).drivingClaim = s.drivingClaim ∧
    (s.setPending l).drivingAlert = s.drivingAlert ∧
    (s.setPending l).receiving = s.receiving ∧
    (s.setPending l).holdDrive = s.holdDrive ∧
    (∀ (c : Cradle), (s.setPending l).beam c = s.beam c) ∧
    (s.setPending l).stamp = s.stamp ∧
    (∀ (c : Cradle), (s.setPending l).envelopeNow c = s.envelopeNow c) ∧
    (∀ (c : Cradle) (why : BunchEnd), (s.setPending l).bunchOf c why = s.bunchOf c why) ∧
    (∀ (c : Cradle), (s.setPending l).claimCount c = s.claimCount c) ∧
    (∀ (c : Candidate), (s.setPending l).recheck c = s.recheck c) ∧
    (∀ (c : Cradle), (s.setPending l).oldestOpen c = s.oldestOpen c) ∧
    (∀ (c : Cradle) (key : Bool), (s.setPending l).mayFinish c key = s.mayFinish c key) ∧
    (∀ (r : Record), (s.setPending l).mayClearStop r = s.mayClearStop r) ∧
    (s.setPending l).mayResume = s.mayResume ∧
    (∀ (t : Tag), (s.setPending l).judgedNew t = s.judgedNew t) ∧
    (∀ (topic : Fin 16), (s.setPending l).answer topic = s.answer topic) ∧
    (∀ (number : StationNo) (n : Notice), (s.setPending l).frameOf number n = s.frameOf number n) ∧
    (s.setPending l).pendingConditions = s.pendingConditions := by
  and_intros <;> intros <;> rfl

@[simp] theorem State.setPending_of_ite (c : Prop) [Decidable c] (t u : State) :
    (if c then t.setPending l else u.setPending l) = (if c then t else u).setPending l := by
  split <;> rfl

@[simp] theorem State.setCradle_setPending (c : Cradle) (r : CradleRec) :
    (s.setPending l).setCradle c r = (s.setCradle c r).setPending l := by
  cases c <;> rfl

@[simp] theorem State.setBeam_setPending (c : Cradle) (b : Beam) :
    (s.setPending l).setBeam c b = (s.setBeam c b).setPending l := by
  cases c <;> rfl

@[simp] theorem State.told_setPending (p : Pin) (level : Bool) :
    (s.setPending l).told p level = (s.told p level).setPending l := by
  simp [State.told]

@[simp] theorem State.putMode_setPending (m : Mode) :
    (s.setPending l).putMode m = (s.putMode m).setPending l := by
  simp [State.putMode]

@[simp] theorem State.reach_setPending (t : Nat) :
    (s.setPending l).reach t = (s.reach t).setPending l := by
  simp [State.reach]

@[simp] theorem State.readHold_setPending :
    (s.setPending l).readHold = (s.readHold).setPending l := by
  simp [State.readHold]

@[simp] theorem State.setHoldBlocked_setPending (v : Bool) :
    (s.setPending l).setHoldBlocked v = (s.setHoldBlocked v).setPending l := by
  simp [State.setHoldBlocked]

@[simp] theorem State.setHoldStop_setPending (v : Bool) :
    (s.setPending l).setHoldStop v = (s.setHoldStop v).setPending l := by
  simp [State.setHoldStop]

@[simp] theorem State.putLost_setPending :
    (s.setPending l).putLost = (s.putLost).setPending l := by
  simp [State.putLost]

theorem State.alertNotice_setPending {full : State → State} (h : full (s.setPending l) = (full s).setPending l) :
    (s.setPending l).alertNotice full = (s.alertNotice full).setPending l := by
  simp [State.alertNotice, h]

theorem State.attention_setPending (c : Cause) (param : BitVec 12) {full : State → State}
    (h : ∀ t, full (t.setPending l) = (full t).setPending l) :
    (s.setPending l).attention c param full = (s.attention c param full).setPending l := by
  simp only [State.attention, State.setPending_alc]
  split <;> simp [State.alertNotice_setPending, h]

@[simp] theorem State.discardNotice_setPending :
    (s.setPending l).discardNotice = (s.discardNotice).setPending l := by
  simp [State.discardNotice, State.attention_setPending]

@[simp] theorem State.queueAlert_setPending :
    (s.setPending l).queueAlert = (s.queueAlert).setPending l := by
  simp [State.queueAlert, State.alertNotice_setPending]

@[simp] theorem State.joinNotice_setPending (n : Notice) :
    (s.setPending l).joinNotice n = (s.joinNotice n).setPending l := by
  simp [State.joinNotice]

@[simp] theorem State.raise1_setPending (c : Cause) (param : BitVec 12) :
    (s.setPending l).raise1 c param = (s.raise1 c param).setPending l := by
  simp [State.raise1, State.attention_setPending]

@[simp] theorem State.retire1_setPending :
    (s.setPending l).retire1 = (s.retire1).setPending l := by
  simp [State.retire1]

@[simp] theorem State.endCondition_setPending (c : Cause) :
    (s.setPending l).endCondition c = (s.endCondition c).setPending l := by
  simp [State.endCondition]

@[simp] theorem State.reoffer_setPending (st : Stem) :
    (s.setPending l).reoffer st = (s.reoffer st).setPending l := by
  simp only [State.reoffer, State.tests_setPending, State.setPending_rol, State.setters_setPending]
  exact State.setPending_of_ite l _ _ _

@[simp] theorem State.reofferAll_setPending (sts : List Stem) :
    (s.setPending l).reofferAll sts = (s.reofferAll sts).setPending l := by
  induction sts generalizing s with
  | nil => rfl
  | cons st sts ih => simp [State.reofferAll, ih]

@[simp] theorem State.expire_setPending :
    (s.setPending l).expire = (s.expire).setPending l := by
  simp [State.expire]

@[simp] theorem State.roundIdle_setPending :
    (s.setPending l).roundIdle = (s.roundIdle).setPending l := by
  simp [State.roundIdle]

@[simp] theorem State.stopClaimFrame_setPending :
    (s.setPending l).stopClaimFrame = (s.stopClaimFrame).setPending l := by
  simp [State.stopClaimFrame]

@[simp] theorem State.giveUpStart_setPending :
    (s.setPending l).giveUpStart = (s.giveUpStart).setPending l := by
  simp [State.giveUpStart]

@[simp] theorem State.endLostFrame_setPending :
    (s.setPending l).endLostFrame = (s.endLostFrame).setPending l := by
  simp [State.endLostFrame]

@[simp] theorem State.endLost_setPending :
    (s.setPending l).endLost = (s.endLost).setPending l := by
  simp [State.endLost]

@[simp] theorem State.forfeitChosen_setPending :
    (s.setPending l).forfeitChosen = (s.forfeitChosen).setPending l := by
  simp [State.forfeitChosen]
  split <;> simp

@[simp] theorem State.modeEndsRound_setPending :
    (s.setPending l).modeEndsRound = (s.modeEndsRound).setPending l := by
  simp [State.modeEndsRound]
  split <;> simp

@[simp] theorem State.changeMode_setPending (m : Mode) :
    (s.setPending l).changeMode m = (s.changeMode m).setPending l := by
  simp [State.changeMode]

@[simp] theorem State.openRound_setPending (kind : RoundKind) (st : Stem) :
    (s.setPending l).openRound kind st = (s.openRound kind st).setPending l := by
  simp [State.openRound]
  split <;> simp

@[simp] theorem State.onRecipe_setPending (i : Nat) (f : Recipe → Recipe) :
    (s.setPending l).onRecipe i f = (s.onRecipe i f).setPending l := by
  simp [State.onRecipe]

@[simp] theorem State.completionReport_setPending (i : Nat) :
    (s.setPending l).completionReport i = (s.completionReport i).setPending l := by
  simp [State.completionReport]
  split <;> simp

@[simp] theorem State.afterLoss_setPending (c : Cradle) :
    (s.setPending l).afterLoss c = (s.afterLoss c).setPending l := by
  simp only [State.afterLoss, State.tests_setPending, State.setCradle_setPending]
  split
  · split
    · split <;> simp
    · rfl
  · rfl

@[simp] theorem State.uncommit_setPending (c : Cradle) (n : Nat) :
    (s.setPending l).uncommit c n = (s.uncommit c n).setPending l := by
  simp [State.uncommit]

@[simp] theorem State.complete_setPending (c : Cradle) (how : Completion) :
    (s.setPending l).complete c how = (s.complete c how).setPending l := by
  simp [State.complete]
  split <;> simp

@[simp] theorem State.land_setPending (e : Claim) (verified : Bool) :
    (s.setPending l).land e verified = (s.land e verified).setPending l := by
  simp [State.land]
  split <;> simp

@[simp] theorem State.forfeitCradle_setPending (c : Cradle) :
    (s.setPending l).forfeitCradle c = (s.forfeitCradle c).setPending l := by
  simp [State.forfeitCradle]

@[simp] theorem State.discardFalling_setPending (c : Cradle) :
    (s.setPending l).discardFalling c = (s.discardFalling c).setPending l := by
  simp [State.discardFalling]

@[simp] theorem State.stopForfeit_setPending :
    (s.setPending l).stopForfeit = (s.stopForfeit).setPending l := by
  simp [State.stopForfeit]

@[simp] theorem State.reviewBlocked_setPending :
    (s.setPending l).reviewBlocked = (s.reviewBlocked).setPending l := by
  simp [State.reviewBlocked]

@[simp] theorem State.reviewIdle_setPending :
    (s.setPending l).reviewIdle = (s.reviewIdle).setPending l := by
  simp [State.reviewIdle]

@[simp] theorem State.settle_setPending :
    (s.setPending l).settle = (s.settle).setPending l := by
  simp [State.settle]

@[simp] theorem State.enterStop_setPending (c : Cause) (param : BitVec 12) :
    (s.setPending l).enterStop c param = (s.enterStop c param).setPending l := by
  simp [State.enterStop]

@[simp] theorem State.raise2_setPending (c : Cause) (param : BitVec 12) :
    (s.setPending l).raise2 c param = (s.raise2 c param).setPending l := by
  simp [State.raise2]

@[simp] theorem State.endStop_setPending :
    (s.setPending l).endStop = (s.endStop).setPending l := by
  simp [State.endStop]
  split <;> simp

@[simp] theorem State.retire2_setPending :
    (s.setPending l).retire2 = (s.retire2).setPending l := by
  simp [State.retire2]
  split <;> simp

@[simp] theorem State.unannouncedPitch_setPending :
    (s.setPending l).unannouncedPitch = (s.unannouncedPitch).setPending l := by
  simp only [State.unannouncedPitch, State.setters_setPending, State.setPending_ptr, State.raise1_setPending,
    State.tests_setPending]
  exact State.setPending_of_ite l _ _ _

@[simp] theorem State.endAnnouncePending_setPending :
    (s.setPending l).endAnnouncePending = (s.endAnnouncePending).setPending l := by
  simp [State.endAnnouncePending]
  split <;> rfl

@[simp] theorem State.frameEnd_setPending :
    (s.setPending l).frameEnd = (s.frameEnd).setPending l := by
  simp [State.frameEnd]

@[simp] theorem State.ownFrameEnd_setPending :
    (s.setPending l).ownFrameEnd = (s.ownFrameEnd).setPending l := by
  simp [State.ownFrameEnd]

@[simp] theorem State.drive_setPending (f : Frame) :
    (s.setPending l).drive f = (s.drive f).setPending l := by
  simp [State.drive]

@[simp] theorem State.openClaimReserve_setPending :
    (s.setPending l).openClaimReserve = (s.openClaimReserve).setPending l := by
  simp [State.openClaimReserve]

@[simp] theorem State.openReclaimReserve_setPending :
    (s.setPending l).openReclaimReserve = (s.openReclaimReserve).setPending l := by
  simp [State.openReclaimReserve]

@[simp] theorem State.refusePulse_setPending :
    (s.setPending l).refusePulse = (s.refusePulse).setPending l := by
  simp [State.refusePulse]

@[simp] theorem State.startMark_setPending :
    (s.setPending l).startMark = (s.startMark).setPending l := by
  simp [State.startMark]
  split <;> simp

@[simp] theorem State.stopDriving_setPending :
    (s.setPending l).stopDriving = (s.stopDriving).setPending l := by
  simp [State.stopDriving]

@[simp] theorem State.loseArbitration_setPending :
    (s.setPending l).loseArbitration = (s.loseArbitration).setPending l := by
  simp [State.loseArbitration]

@[simp] theorem State.countMismatch_setPending :
    (s.setPending l).countMismatch = (s.countMismatch).setPending l := by
  simp [State.countMismatch]

@[simp] theorem State.mismatchReceiver_setPending (atStart : Bool) :
    (s.setPending l).mismatchReceiver atStart = (s.mismatchReceiver atStart).setPending l := by
  simp [State.mismatchReceiver]

@[simp] theorem State.mismatch_setPending (atStart : Bool) :
    (s.setPending l).mismatch atStart = (s.mismatch atStart).setPending l := by
  simp [State.mismatch]

@[simp] theorem State.cutShort_setPending (kind : FrameKind) :
    (s.setPending l).cutShort kind = (s.cutShort kind).setPending l := by
  simp [State.cutShort]

@[simp] theorem State.unknownKind_setPending :
    (s.setPending l).unknownKind = (s.unknownKind).setPending l := by
  simp [State.unknownKind]

@[simp] theorem State.commit_setPending (c : Candidate) :
    (s.setPending l).commit c = (s.commit c).setPending l := by
  simp [State.commit]

@[simp] theorem State.wonFrameEnd_setPending (c : Candidate) :
    (s.setPending l).wonFrameEnd c = (s.wonFrameEnd c).setPending l := by
  simp [State.wonFrameEnd]

@[simp] theorem State.claimFrameEnd_setPending (kind : RoundKind) :
    (s.setPending l).claimFrameEnd kind = (s.claimFrameEnd kind).setPending l := by
  simp [State.claimFrameEnd]
  split <;> simp

@[simp] theorem State.startClaim_setPending (kind : RoundKind) (since : Option Nat) :
    (s.setPending l).startClaim kind since = (s.startClaim kind since).setPending l := by
  simp [State.startClaim]
  split <;> simp

@[simp] theorem State.takeReoffer_setPending (st : Stem) :
    (s.setPending l).takeReoffer st = (s.takeReoffer st).setPending l := by
  simp [State.takeReoffer]

@[simp] theorem State.removeStale_setPending (c : Cradle) :
    (s.setPending l).removeStale c = (s.removeStale c).setPending l := by
  simp [State.removeStale]

@[simp] theorem State.removeComplete_setPending (c : Cradle) :
    (s.setPending l).removeComplete c = (s.removeComplete c).setPending l := by
  simp [State.removeComplete]

@[simp] theorem State.removePremature_setPending (c : Cradle) :
    (s.setPending l).removePremature c = (s.removePremature c).setPending l := by
  simp [State.removePremature]
  split <;> simp

@[simp] theorem State.judgeBreak_setPending (c : Cradle) :
    (s.setPending l).judgeBreak c = (s.judgeBreak c).setPending l := by
  simp [State.judgeBreak]
  split <;> simp

@[simp] theorem State.countMiss_setPending (c : Cradle) :
    (s.setPending l).countMiss c = (s.countMiss c).setPending l := by
  simp [State.countMiss]

@[simp] theorem State.missed_setPending (f : Falling) (rest : List Falling) :
    (s.setPending l).missed f rest = (s.missed f rest).setPending l := by
  simp [State.missed]

@[simp] theorem State.passClaim_setPending (e : Claim) (rest : List Claim) :
    (s.setPending l).passClaim e rest = (s.passClaim e rest).setPending l := by
  simp [State.passClaim]

@[simp] theorem State.clearPassed_setPending (es : List Claim) :
    (s.setPending l).clearPassed es = (s.clearPassed es).setPending l := by
  induction es generalizing s with
  | nil => rfl
  | cons e rest ih => simp [State.clearPassed, ih]

@[simp] theorem State.fire_setPending (e : Claim) (rest : List Claim) :
    (s.setPending l).fire e rest = (s.fire e rest).setPending l := by
  have aims : (s.setPending l).aim e rest = (s.aim e rest).setPending l := rfl
  rcases Nat.lt_or_ge s.drc.falling.length 4 with room | full
  · rw [State.fire_of_room e rest room, State.fire_of_room (s := s.setPending l) e rest room]
    rfl
  · rw [State.fire_of_full e rest full, State.fire_of_full (s := s.setPending l) e rest full]
    simp [aims]

@[simp] theorem State.arrival_setPending :
    (s.setPending l).arrival = (s.arrival).setPending l := by
  simp [State.arrival]
  split <;> simp

@[simp] theorem State.advance_setPending (p : Tag) :
    (s.setPending l).advance p = (s.advance p).setPending l := by
  simp [State.advance]

@[simp] theorem State.countCoast_setPending :
    (s.setPending l).countCoast = (s.countCoast).setPending l := by
  simp [State.countCoast]

@[simp] theorem State.expectAnnounce_setPending :
    (s.setPending l).expectAnnounce = (s.expectAnnounce).setPending l := by
  simp [State.expectAnnounce]

@[simp] theorem State.forwardPulse_setPending :
    (s.setPending l).forwardPulse = (s.forwardPulse).setPending l := by
  simp [State.forwardPulse]
  split <;> simp

@[simp] theorem State.resync_setPending (t : Tag) :
    (s.setPending l).resync t = (s.resync t).setPending l := by
  simp [State.resync]
  split <;> simp

@[simp] theorem State.announced_setPending :
    (s.setPending l).announced = (s.announced).setPending l := by
  simp [State.announced]

@[simp] theorem State.trackAnnounce_setPending (st : Stem) :
    (s.setPending l).trackAnnounce st = (s.trackAnnounce st).setPending l := by
  simp [State.trackAnnounce]

@[simp] theorem State.announce_setPending (st : Stem) :
    (s.setPending l).announce st = (s.announce st).setPending l := by
  simp [State.announce]

@[simp] theorem State.joinAll_setPending (ns : List Notice) :
    (s.setPending l).joinAll ns = (s.joinAll ns).setPending l := by
  induction ns generalizing s with
  | nil => rfl
  | cons n ns ih => simp [State.joinAll, ih]

@[simp] theorem State.respond_setPending (topic : Fin 16) :
    (s.setPending l).respond topic = (s.respond topic).setPending l := by
  simp [State.respond]

@[simp] theorem State.startNotice_setPending :
    (s.setPending l).startNotice = (s.startNotice).setPending l := by
  simp [State.startNotice]
  split <;> simp

@[simp] theorem State.startReoffer_setPending :
    (s.setPending l).startReoffer = (s.startReoffer).setPending l := by
  simp [State.startReoffer]
  split <;> simp

@[simp] theorem State.clearLost_setPending (f : Frame) :
    (s.setPending l).clearLost f = (s.clearLost f).setPending l := by
  simp [State.clearLost]

@[simp] theorem State.noticeLeaves_setPending :
    (s.setPending l).noticeLeaves = (s.noticeLeaves).setPending l := by
  simp [State.noticeLeaves]

@[simp] theorem State.refuseProfile_setPending (param : Nat) :
    (s.setPending l).refuseProfile param = (s.refuseProfile param).setPending l := by
  simp [State.refuseProfile]

@[simp] theorem State.enterJoining_setPending :
    (s.setPending l).enterJoining = (s.enterJoining).setPending l := by
  simp [State.enterJoining]

@[simp] theorem State.acceptProfile_setPending (img : List Byte) :
    (s.setPending l).acceptProfile img = (s.acceptProfile img).setPending l := by
  simp [State.acceptProfile]

@[simp] theorem State.announcePendingEnd_setPending :
    (s.setPending l).announcePendingEnd = (s.announcePendingEnd).setPending l := by
  simp [State.announcePendingEnd]
  split <;> simp

@[simp] theorem State.profileReadEnd_setPending (memory : SerialMemory) :
    (s.setPending l).profileReadEnd memory = (s.profileReadEnd memory).setPending l := by
  unfold State.profileReadEnd
  cases readFault memory.read with
  | none =>
    cases memory.read with
    | failed =>
      simp only [ite_self]
    | image img => simp
  | some param => simp

@[simp] theorem State.joinTimerEnd_setPending :
    (s.setPending l).joinTimerEnd = (s.joinTimerEnd).setPending l := by
  simp [State.joinTimerEnd]
  split <;> simp

@[simp] theorem State.joinHeard_setPending (number : StationNo) :
    (s.setPending l).joinHeard number = (s.joinHeard number).setPending l := by
  simp [State.joinHeard]

@[simp] theorem State.conflictHeard_setPending (number : StationNo) :
    (s.setPending l).conflictHeard number = (s.conflictHeard number).setPending l := by
  simp [State.conflictHeard]

@[simp] theorem State.win_setPending :
    (s.setPending l).win = (s.win).setPending l := by
  simp [State.win]

@[simp] theorem State.becomeIdle_setPending :
    (s.setPending l).becomeIdle = (s.becomeIdle).setPending l := by
  simp [State.becomeIdle]

@[simp] theorem State.claimReserveEnd_setPending :
    (s.setPending l).claimReserveEnd = (s.claimReserveEnd).setPending l := by
  simp [State.claimReserveEnd]
  split <;> simp

@[simp] theorem State.reclaimReserveEnd_setPending :
    (s.setPending l).reclaimReserveEnd = (s.reclaimReserveEnd).setPending l := by
  simp [State.reclaimReserveEnd]
  split <;> simp

@[simp] theorem State.reofferSend_setPending :
    (s.setPending l).reofferSend = (s.reofferSend).setPending l := by
  simp [State.reofferSend]

@[simp] theorem State.reofferLeaves_setPending :
    (s.setPending l).reofferLeaves = (s.reofferLeaves).setPending l := by
  simp [State.reofferLeaves]

@[simp] theorem State.reofferSent_setPending :
    (s.setPending l).reofferSent = (s.reofferSent).setPending l := by
  simp [State.reofferSent]
  split <;> simp

@[simp] theorem State.noticeSend_setPending :
    (s.setPending l).noticeSend = (s.noticeSend).setPending l := by
  simp [State.noticeSend]

@[simp] theorem State.noticeSent_setPending :
    (s.setPending l).noticeSent = (s.noticeSent).setPending l := by
  simp only [State.noticeSent, State.setPending_lbi]
  split
  · rfl
  · rfl
  · rfl
  · cases ‹Frame› <;> simp [State.startJoinTimer]

@[simp] theorem State.queried_setPending (target : StationNo) (topic : Fin 16) :
    (s.setPending l).queried target topic = (s.queried target topic).setPending l := by
  simp [State.queried]

@[simp] theorem State.cradlePlaced_setPending (c : Cradle) :
    (s.setPending l).cradlePlaced c = (s.cradlePlaced c).setPending l := by
  simp [State.cradlePlaced]

@[simp] theorem State.cradleLifted_setPending (c : Cradle) :
    (s.setPending l).cradleLifted c = (s.cradleLifted c).setPending l := by
  simp [State.cradleLifted]
  split <;> simp

@[simp] theorem State.removalOverdue_setPending (c : Cradle) :
    (s.setPending l).removalOverdue c = (s.removalOverdue c).setPending l := by
  simp [State.removalOverdue]
  split <;> simp

@[simp] theorem State.beamBreaks_setPending (c : Cradle) :
    (s.setPending l).beamBreaks c = (s.beamBreaks c).setPending l := by
  simp [State.beamBreaks]

@[simp] theorem State.beamClears_setPending (c : Cradle) :
    (s.setPending l).beamClears c = (s.beamClears c).setPending l := by
  simp [State.beamClears]

@[simp] theorem State.windowOpen_setPending :
    (s.setPending l).windowOpen = (s.windowOpen).setPending l := by
  simp [State.windowOpen]
  split <;> simp

@[simp] theorem State.miss_setPending :
    (s.setPending l).miss = (s.miss).setPending l := by
  simp [State.miss]
  split <;> simp

@[simp] theorem State.gatePulseEnd_setPending :
    (s.setPending l).gatePulseEnd = (s.gatePulseEnd).setPending l := by
  simp [State.gatePulseEnd]
  split <;> simp

@[simp] theorem State.gateStuck_setPending (c : Cradle) :
    (s.setPending l).gateStuck c = (s.gateStuck c).setPending l := by
  simp [State.gateStuck]
  split <;> simp

@[simp] theorem State.pull_setPending (c : Cradle) :
    (s.setPending l).pull c = (s.pull c).setPending l := by
  simp [State.pull]

@[simp] theorem State.closeShort_setPending (c : Cradle) :
    (s.setPending l).closeShort c = (s.closeShort c).setPending l := by
  simp [State.closeShort]

@[simp] theorem State.finish_setPending (c : Cradle) (key : Bool) :
    (s.setPending l).finish c key = (s.finish c key).setPending l := by
  simp [State.finish]

@[simp] theorem State.clear_setPending (key : Bool) :
    (s.setPending l).clear key = (s.clear key).setPending l := by
  simp [State.clear]
  split <;> simp

@[simp] theorem State.drain_setPending :
    (s.setPending l).drain = (s.drain).setPending l := by
  simp [State.drain]

@[simp] theorem State.resume_setPending :
    (s.setPending l).resume = (s.resume).setPending l := by
  simp [State.resume]

@[simp] theorem State.refusePulseEnd_setPending :
    (s.setPending l).refusePulseEnd = (s.refusePulseEnd).setPending l := by
  simp [State.refusePulseEnd]
  split <;> simp

/-! ## The commands -/

theorem State.hears_setPending {f : State → State} (h : ∀ t : State, f (t.setPending l) = (f t).setPending l) :
    (s.setPending l).hears f = (s.hears f).setPending l := by
  simp [State.hears, h]

theorem State.pressed_setPending (button : Pin) {f : State → State}
    (h : ∀ t : State, f (t.setPending l) = (f t).setPending l) :
    (s.setPending l).pressed button f = (s.pressed button f).setPending l := by
  simp [State.pressed, h]

theorem State.badFrame_setPending (kind : FrameKind) :
    (s.setPending l).badFrame kind = (s.badFrame kind).setPending l := by
  cases kind with
  | announce => simp [State.badFrame]
  | reoffer => simp [State.badFrame]
  | _ => rfl

theorem State.operate_setPending (c : Instr) : (s.setPending l).operate c = (s.operate c).setPending l := by
  cases c with
  | badCheckFrame kind => simp [State.operate, State.hears_setPending, State.badFrame_setPending]
  | _ => simp [State.operate, State.hears_setPending, State.pressed_setPending]

theorem State.whileHeld_setPending (c : Instr) : (s.setPending l).whileHeld c = (s.whileHeld c).setPending l := by
  cases c <;> simp [State.whileHeld]

/-- A command answers the same with another queue, but for that queue. -/
theorem exec_setPending (c : Instr) :
    (∃ t, exec c s = .next t ∧ exec c (s.setPending l) = .next (t.setPending l)) ∨
      ∃ r, exec c s = .refused r ∧ exec c (s.setPending l) = .refused r := by
  cases wf : c.wellFormed with
  | false =>
    right
    cases c with
    | unknownKindFrame code => exact ⟨_, if_neg (Bool.eq_false_iff.mp wf), if_neg (Bool.eq_false_iff.mp wf)⟩
    | noticeReceived kind => exact ⟨_, if_neg (Bool.eq_false_iff.mp wf), if_neg (Bool.eq_false_iff.mp wf)⟩
    | _ => exact absurd wf (by simp [Instr.wellFormed])
  | true =>
    left
    by_cases isReset : ∃ powerOn, c = .reset powerOn
    · obtain ⟨powerOn, rfl⟩ := isReset
      exact ⟨_, exec_reset powerOn s, exec_reset powerOn (s.setPending l)⟩
    by_cases isHeld : c = .resetHeld
    · subst isHeld
      exact ⟨_, exec_resetHeld_eq s, exec_resetHeld_eq (s.setPending l)⟩
    have notReset : ∀ powerOn, c ≠ .reset powerOn := fun powerOn e => isReset ⟨powerOn, e⟩
    cases run : s.inReset with
    | true =>
      refine ⟨_, exec_of_inReset run c wf notReset isHeld, ?_⟩
      rw [exec_of_inReset (s := s.setPending l) run c wf notReset isHeld, State.whileHeld_setPending]
    | false =>
      refine ⟨_, exec_of_running run c wf notReset isHeld, ?_⟩
      rw [exec_of_running (s := s.setPending l) run c wf notReset isHeld, State.operate_setPending]

/-- Settles O2: every operation a command is made of commutes with a change of the queue. -/
theorem commandIgnoresQueue : Obligations.CommandIgnoresQueue := by
  intro c s l
  rcases exec_setPending s l c with ⟨t, next, also⟩ | ⟨r, refused, also⟩
  · rw [also, next]
  · rw [also, refused]

end Sys2Proof.Machine
end

section
/-! The step: a command at the front of the queue, or one bit time (R139, R182; logs 7 and 15). -/

namespace Sys2Proof.Machine

/-! ## One bit time -/

theorem State.tick_inputs (s : State) : s.tick.inputs = s.inputs.tick := by
  unfold State.tick
  dsimp only
  split
  · rfl
  · simp [State.openBit_eq]

theorem State.tick_qualifier (s : State) (p : Pin) : s.tick.qualifier p = (s.qualifier p).tick p := by
  rw [State.qualifier, State.tick_inputs, Inputs.tick_get]
  rfl

/-- A bit time at a qualifier, as R182 says it. -/
theorem Qualifier.tick_eq (q : Qualifier) (p : Pin) :
    q.tick p = if q.pin = q.level then { q with run := 0 }
      else if q.run + 1 < p.qualifyTime then { q with run := q.run + 1 }
      else ⟨q.pin, q.pin, 0, false⟩ := by
  by_cases same : q.pin = q.level
  · simp [Qualifier.tick, Qualifier.changes, same]
  · by_cases short : q.run + 1 < p.qualifyTime
    · simp [Qualifier.tick, Qualifier.changes, same, short]
    · simp [Qualifier.tick, Qualifier.changes, Qualifier.first, same, short, Nat.not_lt.mp short]

theorem Qualifier.tick_level (q : Qualifier) (p : Pin) :
    (q.tick p).level = if q.changes p then q.pin else q.level := by
  unfold Qualifier.tick
  split <;> rfl

theorem Qualifier.changes_iff (q : Qualifier) (p : Pin) : q.changes p = true ↔ (q.tick p).level ≠ q.level := by
  rw [Qualifier.tick_level]
  cases changes : q.changes p with
  | false => simp
  | true =>
    have differs : q.pin ≠ q.level := by
      simp only [Qualifier.changes, Bool.and_eq_true, bne_iff_ne] at changes
      exact changes.1
    simp [differs]

/-! ## The input pins under the commands -/

/-- What a command tells the qualifiers: a change of a beam or a cradle sensor (log 15). -/
def State.toldBy (s : State) : Instr → State
  | .beamBlocked x => s.told (.beam x) true
  | .beamClear x => s.told (.beam x) false
  | .cradlePresent x => s.told (.sensor x) true
  | .cradleAbsent x => s.told (.sensor x) false
  | _ => s

theorem State.hears_inputs {s : State} {f : State → State} (h : (f s).inputs = s.inputs) :
    (s.hears f).inputs = s.inputs :=
  State.hears_keeps (P := fun t => t.inputs = s.inputs) rfl fun _ => h

theorem State.pressed_inputs {s : State} {f : State → State} (button : Pin) (h : (f s).inputs = s.inputs) :
    (s.pressed button f).inputs = s.inputs :=
  State.pressed_keeps (P := fun t => t.inputs = s.inputs) button rfl h

theorem State.operate_inputs (s : State) (c : Instr) : (s.operate c).inputs = (s.toldBy c).inputs := by
  cases c with
  | announce st => exact State.hears_inputs (by simp)
  | claimReceived kind => exact State.hears_inputs (by simp)
  | reofferReceived n st => exact State.hears_inputs (by simp)
  | badCheckFrame kind => exact State.hears_inputs (by simp)
  | frameCutShort kind => exact State.hears_inputs (by simp)
  | unknownKindFrame code => exact State.hears_inputs (by simp [State.unknownKind])
  | joinReceived n => exact State.hears_inputs (by simp)
  | conflictReceived n => exact State.hears_inputs (by simp)
  | noticeReceived kind => exact State.hears_inputs (by simp)
  | query n topic => exact State.hears_inputs (by simp)
  | pull c => exact State.pressed_inputs _ (by simp)
  | finish c key => exact State.pressed_inputs _ (by simp)
  | clear key => exact State.pressed_inputs _ (by simp)
  | cancel => exact State.pressed_inputs _ (by simp)
  | drain => exact State.pressed_inputs _ (by simp)
  | resume => exact State.pressed_inputs _ (by simp)
  | beamClear c =>
    simp only [State.operate, State.toldBy, State.beamClears]
    split <;> simp
  | won =>
    simp only [State.operate, State.toldBy, State.win]
    split <;> rfl
  | _ => simp [State.operate, State.toldBy]

theorem exec_inputs {c : Instr} {s t : State} (h : exec c s = .next t) (notReset : ∀ powerOn, c ≠ .reset powerOn) :
    t.inputs = (s.toldBy c).inputs := by
  have wf := wellFormed_of_next h
  by_cases isHeld : c = .resetHeld
  · subst isHeld
    rw [exec_resetHeld_eq] at h
    injection h with h
    subst h
    rfl
  cases run : s.inReset with
  | true =>
    rw [exec_of_inReset run c wf notReset isHeld] at h
    injection h with h
    subst h
    cases c <;> rfl
  | false =>
    rw [exec_of_running run c wf notReset isHeld] at h
    injection h with h
    subst h
    exact s.operate_inputs c

/-! ## The step -/

theorem Inputs.pulse_eq (x : Inputs) :
    x.pulse = if x.pitch = true ∧ x.pitchSeen = false then [if x.dir then .forwardPulse else .reversePulse] else [] := by
  cases pitch : x.pitch <;> cases seen : x.pitchSeen <;> simp [Inputs.pulse, pitch, seen]

theorem State.tick_of_running {s : State} (run : s.inReset = false) :
    s.tick = (((s.setInputs s.inputs.tick).setPending s.inputs.events).setNow (s.now + 1)).setLbi { s.lbi with
      openRun := if s.lbi.receiver ≠ .inFrame ∧ s.lbi.openRun < 10 then s.lbi.openRun + 1 else s.lbi.openRun } := by
  have short : s.lbi.openRun + 1 < Config.idleRun ↔ s.lbi.openRun < 10 := Nat.lt_sub_iff_add_lt.symm
  simp only [State.tick, run, Bool.false_eq_true, if_false, State.openBit]
  by_cases counts : s.lbi.receiver ≠ .inFrame ∧ s.lbi.openRun < 10
  · rw [if_pos counts]
    exact if_pos ⟨counts.1, short.mpr counts.2⟩
  · rw [if_neg counts]
    exact if_neg fun h => counts ⟨h.1, short.mp h.2⟩

/-- Settles O1: the front command by definition, the bit time pin by pin, the input pins command by command. -/
theorem stepRunsFrontCommand : Obligations.StepRunsFrontCommand := by
  refine ⟨fun c rest s queue => by rw [step, queue], fun s queue => ?_, fun c s t h notReset => ?_⟩
  · have pending : s.inReset = false → s.tick.pending = s.inputs.events := fun run => by
      rw [State.tick_of_running run]
      rfl
    refine ⟨s.tick, by rw [step, queue], fun p => ?_, ?_, ?_, ?_, fun held => ?_, fun run => ⟨?_, ?_⟩⟩
    · rw [State.tick_qualifier, Qualifier.tick_eq]
      rcases p with (c | c | c | c | _ | _ | _ | _ | _) <;> rfl
    · rw [State.tick_inputs]
      rfl
    · rw [State.tick_inputs]
      rfl
    · rw [State.tick_inputs]
      rfl
    · rw [State.tick_inputs, State.tick, if_pos held]
    · conv_lhs => rw [s.tick_of_running run]
      rw [State.tick_inputs, pending run]
    · rw [pending run, Inputs.events, Inputs.pulse_eq]
      refine congrArg _ (List.filterMap_congr fun p _ => ?_)
      have level := (s.qualifier p).tick_level p
      have changes := (s.qualifier p).changes_iff p
      have key : (s.tick.qualifier .key).level = s.inputs.tick.pins.key.level := by
        rw [State.qualifier, State.tick_inputs]
        rfl
      rw [State.tick_qualifier, key, ← State.qualifier]
      by_cases same : ((s.qualifier p).tick p).level = (s.qualifier p).level
      · rw [if_neg fun h => changes.mp h same, if_pos same]
      · rw [changes.mpr same, if_pos rfl] at level
        rw [if_pos (changes.mpr same), if_neg same, level]
        generalize (s.qualifier p).pin = pin
        rcases p with (c | c | c | c | _ | _ | _ | _ | _) <;> cases pin <;> rfl
  · rw [exec_inputs h notReset]
    cases c <;> rfl

end Sys2Proof.Machine
end

section
/-! Frames as bits (R137 to R140, 12.1): what is sent is read back, and arrives as its command. -/

namespace Sys2Proof.Machine

/-! ## Numbers as bits -/

theorem numBits_zero (n : Nat) : numBits 0 n = [] := rfl

@[simp] theorem numBits_length (w n : Nat) : (numBits w n).length = w := by simp [numBits]

theorem bitsNum_cons (b : Bool) (bs : List Bool) : bitsNum (b :: bs) = 2 ^ bs.length * b.toNat + bitsNum bs := by
  have from_ : ∀ (l : List Bool) (n : Nat),
      l.foldl (fun n b => 2 * n + b.toNat) n = 2 ^ l.length * n + bitsNum l := by
    intro l
    induction l with
    | nil => simp [bitsNum]
    | cons b l ih =>
      intro n
      rw [bitsNum, List.foldl_cons, List.foldl_cons, ih, ih, List.length_cons, pow_succ]
      ring
  simpa [bitsNum] using from_ bs b.toNat

theorem bitsNum_numBits (w n : Nat) : bitsNum (numBits w n) = n % 2 ^ w := by
  induction w with
  | zero => simp [numBits_zero, bitsNum, Nat.mod_one]
  | succ w ih => rw [numBits_succ, bitsNum_cons, numBits_length, ih, Nat.mod_pow_succ, Nat.toNat_testBit, Nat.add_comm]

/-! ## Field values as bits -/

theorem packBits_length {ws vs : List Nat} (same : vs.length = ws.length) : (packBits ws vs).length = ws.sum := by
  induction ws generalizing vs with
  | nil => rfl
  | cons w ws ih =>
    cases vs with
    | nil => simp at same
    | cons v vs => simp [packBits, ih (Nat.succ.inj same)]

theorem unpackBits_packBits {ws vs : List Nat} (same : vs.length = ws.length)
    (fit : ((ws.zip vs).all fun wv => wv.2 < 2 ^ wv.1) = true) : unpackBits ws (packBits ws vs) = vs := by
  induction ws generalizing vs with
  | nil => exact (List.length_eq_zero_iff.mp same).symm
  | cons w ws ih =>
    cases vs with
    | nil => simp at same
    | cons v vs =>
      simp only [List.zip_cons_cons, List.all_cons, Bool.and_eq_true, decide_eq_true_eq] at fit
      have value : (packBits (w :: ws) (v :: vs)).take w = numBits w v := List.take_left' (numBits_length w v)
      have others : (packBits (w :: ws) (v :: vs)).drop w = packBits ws vs := List.drop_left' (numBits_length w v)
      rw [unpackBits, value, others, bitsNum_numBits, Nat.mod_eq_of_lt fit.1, ih (Nat.succ.inj same) fit.2]

/-! ## Stuffing (R137, R139) -/

/-- The run of open bits after some content bits, stuff bits counted. -/
def runAfter (run : Nat) (bs : List Bool) : Nat :=
  bs.foldl (fun r b => if b then (if r = 10 then 1 else r + 1) else 0) run

theorem scan_zero (run : Nat) (bs : List Bool) : scan run bs 0 = .got [] run bs := by
  cases bs <;> rfl

/-- Reading stuffed bits gives back the content bits, and goes on where the sender stood. -/
theorem scan_stuff (run : Nat) (bs rest : List Bool) :
    scan run (stuff run (bs ++ rest)) bs.length = .got bs (runAfter run bs) (stuff (runAfter run bs) rest) := by
  induction bs generalizing run with
  | nil => exact scan_zero _ _
  | cons b bs ih =>
    rw [List.cons_append, List.length_cons]
    by_cases ten : run = 10
    · subst ten
      have next : runAfter 10 (b :: bs) = runAfter (if b then 1 else 0) bs := rfl
      rw [next, stuff, if_pos rfl, scan, if_pos rfl, if_neg Bool.false_ne_true, scan, if_neg (by decide), ih]
      rfl
    · have next : runAfter run (b :: bs) = runAfter (if b then run + 1 else 0) bs := by
        simp [runAfter, ten]
      rw [next, stuff, if_neg ten, scan, if_neg ten, ih]
      rfl

/-- A run of open bits does not reach over a marked one. -/
theorem infix_of_no_false {l A B : List Bool} (open_ : false ∉ l) (h : l <:+: A ++ false :: B) : l <:+: A ∨ l <:+: B := by
  obtain ⟨x, y, eq⟩ := h
  rcases List.append_eq_append_iff.mp eq with ⟨c, rfl, _⟩ | ⟨c, at_, rest⟩
  · exact .inl ⟨x, c, rfl⟩
  · cases c with
    | nil => exact .inl ⟨x, [], by simpa using at_⟩
    | cons b c =>
      obtain ⟨rfl, rfl⟩ := List.cons.inj rest
      rcases List.append_eq_append_iff.mp at_ with ⟨d, rfl, tail⟩ | ⟨d, rfl, tail⟩
      · exact absurd (by rw [tail]; simp) open_
      · cases d with
        | nil => exact absurd (by rw [← show _ = l from tail]; simp) open_
        | cons b d =>
          obtain ⟨rfl, rfl⟩ := List.cons.inj tail
          exact .inr ⟨d, y, rfl⟩

/-- Stuffed bits never open eleven times in a row, with the run that came before them (R137). -/
theorem stuff_no_eleven {run : Nat} (le : run ≤ 10) (bs : List Bool) :
    ¬ List.replicate 11 true <:+: List.replicate run true ++ stuff run bs := by
  have open_ : ∀ n, false ∉ List.replicate n true := by simp
  have short : ∀ {n}, n ≤ 10 → ¬ List.replicate 11 true <:+: List.replicate n true := fun le h => by
    have := h.length_le
    simp at this
    omega
  induction bs generalizing run with
  | nil =>
    rw [stuff, List.append_nil]
    exact short le
  | cons b bs ih =>
    intro eleven
    by_cases ten : run = 10
    · subst ten
      rw [stuff, if_pos rfl] at eleven
      rcases infix_of_no_false (open_ 11) eleven with before | after
      · exact short le before
      · cases b with
        | true => exact ih (run := 1) (by decide) after
        | false => exact (infix_of_no_false (A := []) (open_ 11) after).elim (short (n := 0) (by decide)) (ih (run := 0) (by decide))
    · rw [stuff, if_neg ten] at eleven
      cases b with
      | true =>
        refine ih (run := run + 1) (by omega) ?_
        rw [List.replicate_succ' (n := run), List.append_assoc]
        exact eleven
      | false =>
        exact (infix_of_no_false (open_ 11) eleven).elim (short le) (ih (run := 0) (by decide))

/-! ## Frames -/

theorem kindOfCode_kindCode (k : FrameKind) : kindOfCode (kindCode k % 2 ^ 4) = some k := by cases k <;> rfl

theorem RawFrame.wellFormed_iff (f : RawFrame) : f.wellFormed = true ↔
    f.values.length = (layout f.kind).length ∧ (((layout f.kind).zip f.values).all fun wv => wv.2 < 2 ^ wv.1) = true := by
  simp [RawFrame.wellFormed]

/-- The receiver gives back the frame that was sent (R137 to R139). -/
theorem receive_wire {f : RawFrame} (wf : f.wellFormed = true) : receive f.wire.tail = .good f := by
  obtain ⟨same, fit⟩ := f.wellFormed_iff.mp wf
  have fields := packBits_length same
  generalize check' : numBits 16 (check f.covered).toNat = c
  have clen : c.length = 16 := by rw [← check', numBits_length]
  have kind := scan_stuff 0 (numBits 4 (kindCode f.kind)) (packBits (layout f.kind) f.values ++ c)
  generalize runAfter 0 (numBits 4 (kindCode f.kind)) = run at kind
  have body := scan_stuff run (packBits (layout f.kind) f.values ++ c) []
  rw [List.append_nil, List.length_append, fields, clen] at body
  have content : f.wire.tail = stuff 0 (numBits 4 (kindCode f.kind) ++ (packBits (layout f.kind) f.values ++ c)) := by
    rw [RawFrame.wire, RawFrame.content, check', RawFrame.covered, List.append_assoc]
    rfl
  rw [numBits_length, ← content] at kind
  have sum : bitsNum c = (check f.covered).toNat := by
    rw [← check', bitsNum_numBits, Nat.mod_eq_of_lt (check f.covered).isLt]
  rw [receive, kind]
  simp only [bitsNum_numBits, kindOfCode_kindCode, body]
  rw [List.drop_left' fields, List.take_left' fields, ← RawFrame.covered, if_pos sum, unpackBits_packBits same fit]

/-- Settles O10: scanning undoes stuffing, the fields undo their packing, and a stuff bit ends each run of ten. -/
theorem receiverReadsWhatIsSent : Obligations.ReceiverReadsWhatIsSent := by
  intro f wf
  refine ⟨receive_wire wf, fun eleven => ?_⟩
  rcases infix_of_no_false (A := []) (by simp) eleven with none_ | inside
  · simp at none_
  · exact stuff_no_eleven (run := 0) (by decide) f.content inside

end Sys2Proof.Machine
end

section
/-! Frames of other devices as their commands (R140, R179, 12.1). -/

namespace Sys2Proof.Machine

/-- A well-formed frame arrives as the command of its kind and values. -/
theorem command_wire {f : RawFrame} (wf : f.wellFormed = true) :
    (receive f.wire.tail).command = (Received.good f).command := by
  rw [receive_wire wf]

theorem flagCode_lt (st : Stem) : flagCode st < 8 := by
  unfold flagCode
  cases st.head <;> cases st.bent <;> cases st.double <;> decide

/-- A stem is what its field values say (12.1). -/
theorem stemOfValues_stemValues (st : Stem) :
    stemOfValues st.tag.toNat st.length.val st.grade.val (flagCode st) = st := by
  have flags : ∀ a b c : Bool, (4 * a.toNat + 2 * b.toNat + c.toNat).testBit 2 = a ∧
      (4 * a.toNat + 2 * b.toNat + c.toNat).testBit 1 = b ∧ (4 * a.toNat + 2 * b.toNat + c.toNat).testBit 0 = c := by
    decide
  obtain ⟨two, one, zero⟩ := flags st.head st.bent st.double
  rw [stemOfValues, flagCode, two, one, zero]
  simp

theorem announceFrame_wellFormed (st : Stem) : (announceFrame st).wellFormed = true := by
  have flags := flagCode_lt st
  have tag := st.tag.isLt
  simp [RawFrame.wellFormed, announceFrame, layout, stemValues, flags, tag]

theorem reoffer_wellFormed (n : StationNo) (st : Stem) : (Frame.reoffer n st).raw.wellFormed = true := by
  have flags := flagCode_lt st
  have tag := st.tag.isLt
  simp [RawFrame.wellFormed, Frame.raw, layout, stemValues, flags, tag]

theorem queryFrame_wellFormed (n : StationNo) (topic : Fin 16) : (queryFrame n topic).wellFormed = true := by
  simp [RawFrame.wellFormed, queryFrame, layout]

theorem conflict_wellFormed (n : StationNo) : (Frame.conflict n).raw.wellFormed = true := by
  simp [RawFrame.wellFormed, Frame.raw, layout]

theorem claim_wellFormed (kind : RoundKind) (tag : Tag) {bid : Nat} (fits : bid < 2 ^ 20) :
    (Frame.claim kind tag bid).raw.wellFormed = true := by
  have carrier := tag.isLt
  have bits : bid < 1048576 := fits
  cases kind <;> simp [RawFrame.wellFormed, Frame.raw, layout, bits, carrier]

theorem join_wellFormed (n : StationNo) {j : JoinFields} (distance : j.distance < 2048) (span : j.span < 2048)
    (least : 1 ≤ j.recipeCount) (most : j.recipeCount ≤ 4) : (Frame.join n j).raw.wellFormed = true := by
  have fallback : 4 * j.fallback.toNat + (j.recipeCount - 1) < 8 := by
    cases j.fallback <;> simp <;> omega
  have policies : 4 * j.holdWhenBlocked.toNat + 2 * j.holdOnStop.toNat + j.reoffer.toNat < 8 := by
    cases j.holdWhenBlocked <;> cases j.holdOnStop <;> cases j.reoffer <;> decide
  simp [RawFrame.wellFormed, Frame.raw, layout, distance, span, fallback, policies]

/-- Settles O11: each frame is well-formed, so it is read back, and its values are turned back into its fields. -/
theorem framesArriveAsTheirCommands : Obligations.FramesArriveAsTheirCommands := by
  intro n st topic kind bid j f
  refine ⟨fun wf passive => ?_, ?_, ?_, ?_, ?_, fun fits => ?_, fun distance span least most => ?_⟩
  · rw [command_wire wf]
    obtain ⟨kind, values⟩ := f
    rcases passive with is | is | is | is <;> (simp only at is; subst is; rfl)
  · rw [command_wire (announceFrame_wellFormed st)]
    exact congrArg (some ∘ Instr.announce) (stemOfValues_stemValues st)
  · rw [command_wire (reoffer_wellFormed n st)]
    have number : Fin.ofNat 64 n.val = n := by simp
    exact congrArg₂ (fun n st => some (Instr.reofferReceived n st)) number (stemOfValues_stemValues st)
  · rw [command_wire (queryFrame_wellFormed n topic)]
    have number : Fin.ofNat 64 n.val = n := by simp
    have topic' : Fin.ofNat 16 topic.val = topic := by simp
    exact congrArg₂ (fun n topic => some (Instr.query n topic)) number topic'
  · rw [command_wire (conflict_wellFormed n)]
    have number : Fin.ofNat 64 n.val = n := by simp
    exact congrArg (some ∘ Instr.conflictReceived) number
  · rw [command_wire (claim_wellFormed kind st.tag fits)]
    cases kind <;> rfl
  · rw [command_wire (join_wellFormed n distance span least most)]
    have number : Fin.ofNat 64 n.val = n := by simp
    exact congrArg (some ∘ Instr.joinReceived) number

end Sys2Proof.Machine
end

section
/-! The books of the station (R17, R22 to R27, R58, R82, R100, R101): what each block adds to them, with the claims each
cradle counts given apart, so that they can be followed through an event. -/

namespace Sys2Proof.Machine

variable {s t u : State}

/-! ## The books of a recipe -/

/-- The books of a recipe that `k` cradles are building to (R17, R22, R24, R26). -/
structure Recipe.Booked (x : Recipe) (k : Nat) : Prop where
  some_ : 1 ≤ x.n
  most : x.n ≤ 60
  inProgress : x.inProgress = k
  quota : x.q ≠ 0 → x.made + k ≤ x.q
  exhausted : x.exhausted = true ↔ x.q ≠ 0 ∧ x.made = x.q

theorem recipeBooks_iff (x : Recipe) (i : Nat) : recipeBooks s x i ↔ x.Booked (s.buildingTo i) := by
  constructor
  · rintro ⟨some_, most, inProgress, quota, exhausted⟩
    exact ⟨some_, most, inProgress, by rwa [inProgress] at quota, exhausted⟩
  · rintro ⟨some_, most, inProgress, quota, exhausted⟩
    exact ⟨some_, most, inProgress, by rwa [inProgress], exhausted⟩

theorem Recipe.Booked.bound {x : Recipe} {k : Nat} (h : x.Booked k) (can : x.canBind = true) : x.bound.Booked (k + 1) where
  some_ := h.some_
  most := h.most
  inProgress := congrArg (· + 1) h.inProgress
  quota := fun limited => by
    have limited' : x.q ≠ 0 := limited
    have free := can
    simp only [Recipe.canBind, Bool.and_eq_true, Bool.or_eq_true, beq_iff_eq, limited', false_or,
      decide_eq_true_eq, h.inProgress] at free
    exact free.2
  exhausted := h.exhausted

theorem Recipe.Booked.unbound {x : Recipe} {k : Nat} (h : x.Booked (k + 1)) : x.unbound.Booked k where
  some_ := h.some_
  most := h.most
  inProgress := by simp [Recipe.unbound, h.inProgress]
  quota := fun limited => (Nat.add_le_add_left (Nat.le_succ k) _).trans (h.quota limited)
  exhausted := h.exhausted

theorem Recipe.Booked.completed {x : Recipe} {k : Nat} (h : x.Booked (k + 1)) : x.completed.Booked k where
  some_ := h.some_
  most := h.most
  inProgress := by simp [Recipe.completed, h.inProgress]
  quota := fun limited => by
    have := h.quota limited
    have limited' : x.q ≠ 0 := limited
    simp [Recipe.completed, limited']
    omega
  exhausted := by
    have := h.exhausted
    have := h.quota
    by_cases limited : x.q = 0
    · simp_all [Recipe.completed]
    · simp_all [Recipe.completed]
      omega

/-- How many builds a cradle record makes to recipe `i` (R17). -/
def CradleRec.buildsTo (r : CradleRec) (i : Nat) : Nat := if r.building && r.recipe == some i then 1 else 0

theorem State.buildingTo_eq (s : State) (c : Cradle) (i : Nat) :
    s.buildingTo i = (s.cradle c).buildsTo i + (s.cradle (otherCradle c)).buildsTo i := by
  have both : s.buildingTo i = (s.cradle .a).buildsTo i + (s.cradle .b).buildsTo i := by
    simp only [State.buildingTo, List.filter_cons, List.filter_nil, CradleRec.buildsTo]
    split <;> split <;> rfl
  rw [both]
  cases c
  · rfl
  · exact Nat.add_comm _ _

theorem CradleRec.buildsTo_of_building {r : CradleRec} {i j : Nat} (building : r.building = true)
    (recipe : r.recipe = some i) : r.buildsTo j = if j = i then 1 else 0 := by
  by_cases same : j = i
  · simp [CradleRec.buildsTo, building, recipe, same]
  · simp [CradleRec.buildsTo, building, recipe, same, Ne.symm same]

theorem CradleRec.buildsTo_of_idle {r : CradleRec} (idle : r.building = false) (i : Nat) : r.buildsTo i = 0 := by
  simp [CradleRec.buildsTo, idle]

/-- The Recipe Table agrees with the cradles. -/
def State.TableBooked (s : State) : Prop := ∀ (i : Nat) (x : Recipe), s.rct[i]? = some x → x.Booked (s.buildingTo i)

/-- One cradle changes, and with it at most the recipe `j`. -/
theorem State.TableBooked.modify (h : s.TableBooked) (c : Cradle) {j : Nat} {f : Recipe → Recipe}
    (other : t.cradle (otherCradle c) = s.cradle (otherCradle c)) (rct : t.rct = s.rct.modify j f)
    (apart : ∀ i, i ≠ j → (t.cradle c).buildsTo i = (s.cradle c).buildsTo i)
    (at_ : ∀ x, s.rct[j]? = some x → ∀ k, x.Booked ((s.cradle c).buildsTo j + k) →
      (f x).Booked ((t.cradle c).buildsTo j + k)) : t.TableBooked := by
  intro i x record
  rw [rct, List.getElem?_modify] at record
  obtain ⟨y, was, rfl⟩ := Option.map_eq_some_iff.mp record
  have booked := h i y was
  rw [State.buildingTo_eq _ c] at booked ⊢
  rw [other]
  by_cases same : i = j
  · subst same
    simpa using at_ y was _ booked
  · rw [apart i same]
    simpa [Ne.symm same] using booked

theorem State.TableBooked.same (h : s.TableBooked) (c : Cradle)
    (other : t.cradle (otherCradle c) = s.cradle (otherCradle c)) (rct : t.rct = s.rct)
    (builds : ∀ i, (t.cradle c).buildsTo i = (s.cradle c).buildsTo i) : t.TableBooked := by
  intro i x record
  rw [rct] at record
  have booked := h i x record
  rwa [State.buildingTo_eq _ c, other, builds, ← State.buildingTo_eq]

/-- A bind ends: the cradle that was building to `j` builds no more. -/
theorem State.TableBooked.ends (h : s.TableBooked) (c : Cradle) {j : Nat} {f : Recipe → Recipe}
    (other : t.cradle (otherCradle c) = s.cradle (otherCradle c)) (rct : t.rct = s.rct.modify j f)
    (building : (s.cradle c).building = true) (recipe : (s.cradle c).recipe = some j)
    (idle : (t.cradle c).building = false) (books : ∀ x k, x.Booked (k + 1) → (f x).Booked k) : t.TableBooked := by
  refine h.modify c other rct (fun i ne => ?_) fun x _ k booked => ?_
  · rw [CradleRec.buildsTo_of_idle idle, CradleRec.buildsTo_of_building building recipe, if_neg ne]
  · rw [CradleRec.buildsTo_of_building building recipe, if_pos rfl, Nat.add_comm] at booked
    rw [CradleRec.buildsTo_of_idle idle, Nat.zero_add]
    exact books x k booked

theorem State.TableBooked.begins (h : s.TableBooked) (c : Cradle) {j : Nat}
    (other : t.cradle (otherCradle c) = s.cradle (otherCradle c)) (rct : t.rct = s.rct.modify j Recipe.bound)
    (idle : (s.cradle c).building = false) (building : (t.cradle c).building = true)
    (recipe : (t.cradle c).recipe = some j) (can : ∀ x, s.rct[j]? = some x → x.canBind = true) : t.TableBooked := by
  refine h.modify c other rct (fun i ne => ?_) fun x record k booked => ?_
  · rw [CradleRec.buildsTo_of_idle idle, CradleRec.buildsTo_of_building building recipe, if_neg ne]
  · rw [CradleRec.buildsTo_of_idle idle, Nat.zero_add] at booked
    rw [CradleRec.buildsTo_of_building building recipe, if_pos rfl, Nat.add_comm]
    exact booked.bound (can x record)

/-! ## The books of the queue, the Re-offer List and the round -/

/-- The pending queue: its capacity, no tag twice, stems that may be claimed (R32, R82). -/
structure ClaimsBooked (l : List Claim) : Prop where
  room : l.length ≤ 32
  nodup : (l.map (·.stem.tag)).Nodup
  claimable : ∀ e ∈ l, claimableStem e.stem

theorem ClaimsBooked.sublist {l m : List Claim} (h : ClaimsBooked l) (sub : m.Sublist l) : ClaimsBooked m :=
  ⟨sub.length_le.trans h.room, h.nodup.sublist (sub.map _), fun e mem => h.claimable e (sub.subset mem)⟩

/-- The Re-offer List: its capacity, no tag twice, stems that may be claimed (R101). -/
structure StemsBooked (l : List Stem) : Prop where
  room : l.length ≤ 32
  nodup : (l.map (·.tag)).Nodup
  claimable : ∀ e ∈ l, claimableStem e

theorem StemsBooked.sublist {l m : List Stem} (h : StemsBooked l) (sub : m.Sublist l) : StemsBooked m :=
  ⟨sub.length_le.trans h.room, h.nodup.sublist (sub.map _), fun e mem => h.claimable e (sub.subset mem)⟩

/-- The list with a stem it was offered (R103). -/
theorem StemsBooked.reoffer (h : StemsBooked s.rol.entries) {st : Stem} (claimable : claimableStem st) :
    StemsBooked (s.reoffer st).rol.entries := by
  unfold State.reoffer
  split
  · exact h
  · rename_i takes
    simp only [Bool.or_eq_true, not_or, decide_eq_true_eq, Bool.not_eq_true] at takes
    obtain ⟨⟨-, new⟩, room⟩ := takes
    have perm := insertByTag_perm (·.tag) st s.rol.entries
    refine ⟨?_, ?_, fun e mem => ?_⟩
    · have := room
      simp only [State.setRol_rol, insertByTag_length, Config.reofferMax] at this ⊢
      omega
    · refine ((perm.map _).nodup_iff).mpr (List.nodup_cons.mpr ⟨fun mem => ?_, h.nodup⟩)
      obtain ⟨e, at_, same⟩ := List.mem_map.mp mem
      have absent : s.hasReoffer st.tag = true := List.any_eq_true.mpr ⟨e, at_, by simpa using same⟩
      exact Bool.noConfusion (absent.symm.trans new)
    · rcases (mem_insertByTag _ _ _ _).mp mem with rfl | mem
      · exact claimable
      · exact h.claimable e mem

theorem StemsBooked.reofferAll {s : State} (h : StemsBooked s.rol.entries) {l : List Stem}
    (claimable : ∀ st ∈ l, claimableStem st) : StemsBooked (s.reofferAll l).rol.entries := by
  induction l generalizing s with
  | nil => exact h
  | cons st l ih => exact ih (h.reoffer (claimable st (by simp))) fun st mem => claimable st (by simp [mem])

/-- A chosen candidate against a queue and a table: room, its tag not pending, a stem its recipe takes (R32 to R34). -/
structure Candidate.Booked (c : Candidate) (claims : List Claim) (rs : List Recipe) : Prop where
  room : claims.length < 32
  fresh : ∀ e ∈ claims, e.stem.tag ≠ c.stem.tag
  takes : ∃ x, rs[c.recipe]? = some x ∧ x.stemTest c.stem = true

theorem Candidate.Booked.sublist {c : Candidate} {l m : List Claim} {rs : List Recipe} (h : c.Booked l rs)
    (sub : m.Sublist l) : c.Booked m rs :=
  ⟨sub.length_le.trans_lt h.room, fun e mem => h.fresh e (sub.subset mem), h.takes⟩

theorem Candidate.Booked.claimable {c : Candidate} {l : List Claim} {rs : List Recipe} (h : c.Booked l rs) :
    claimableStem c.stem := by
  obtain ⟨x, -, test⟩ := h.takes
  exact Recipe.claimable_of_stemTest test

theorem core_getElem? {rs rs' : List Recipe} (core : rs'.map Recipe.core = rs.map Recipe.core) (i : Nat) :
    (rs'[i]?).map Recipe.core = (rs[i]?).map Recipe.core := by
  rw [← List.getElem?_map, ← List.getElem?_map, core]

theorem Candidate.Booked.table {c : Candidate} {l : List Claim} {rs rs' : List Recipe} (h : c.Booked l rs)
    (core : rs'.map Recipe.core = rs.map Recipe.core) : c.Booked l rs' := by
  obtain ⟨x, record, test⟩ := h.takes
  have same := core_getElem? core c.recipe
  rw [record] at same
  obtain ⟨y, record', same⟩ := Option.map_eq_some_iff.mp same
  obtain ⟨-, -, -, -, tests⟩ := Recipe.core_tests same
  exact ⟨h.room, h.fresh, y, record', (tests c.stem).trans test⟩

end Sys2Proof.Machine
end

section
/-! The books of the station through the operations on cradles (R25, R26, R58 to R60, R67 to R70). -/

namespace Sys2Proof.Machine

variable {s t u : State} {held : Cradle → List Claim}

/-! ## The books, with the claims each cradle counts -/

/-- The claims of a cradle that are pending or falling (R100). -/
def State.heldFor (s : State) (c : Cradle) : List Claim :=
  s.drc.claims.filter (·.cradle = c) ++ (s.drc.falling.filter (·.claim.cradle = c)).map (·.claim)

theorem State.committedLengths_eq (s : State) (c : Cradle) : s.committedLengths c = claimLengths (s.heldFor c) := by
  simp [State.committedLengths, claimLengths, State.heldFor]

/-- The books of the station, given the claims each cradle counts as committed. -/
structure State.BooksFor (s : State) (held : Cradle → List Claim) : Prop where
  cradles : ∀ c, (s.cradle c).Booked (s.boundRecipe (s.cradle c)) (held c)
  table : s.TableBooked
  chosen : ∀ c ∈ s.clu.chosen, c.Booked s.drc.claims s.rct
  claims : ClaimsBooked s.drc.claims
  falling : s.drc.falling.length ≤ 4
  list : StemsBooked s.rol.entries
  unread : s.mdc.profileRead = .reading → s.mdc.profile = none
  unloaded : s.mdc.profile = none → s.rct = []

theorem cradleBooks_iff (c : Cradle) :
    cradleBooks s c ↔ (s.cradle c).Booked (s.boundRecipe (s.cradle c)) (s.heldFor c) := by
  have committed : (s.heldFor c).length = s.claimCount c + s.fallingCount c := by
    simp [State.heldFor, State.claimCount, State.fallingCount]
  have envelope : s.envelopeNow c = envelopeOf ((s.cradle c).stack.map (·.length.val) ++ claimLengths (s.heldFor c)) := by
    rw [State.envelopeNow, State.committedLengths_eq]
  have mem : ∀ e, e ∈ s.heldFor c ↔ (e ∈ s.drc.claims ∧ e.cradle = c) ∨ ∃ f ∈ s.drc.falling, f.claim.cradle = c ∧ f.claim = e := by
    simp [State.heldFor, and_assoc]
  constructor
  · rintro ⟨shape, count, span, each⟩
    refine ⟨shape, count.trans committed.symm, span.trans envelope, fun x m => (each x m).1, fun x m => (each x m).2.1,
      fun x m e k => ?_⟩
    obtain ⟨-, -, pending, falling⟩ := each x m
    rcases (mem e).mp k with ⟨at_, own⟩ | ⟨f, at_, own, rfl⟩
    · exact pending e at_ own
    · exact falling f at_ own
  · rintro ⟨shape, count, span, fits, suits, stems⟩
    refine ⟨shape, count.trans committed, span.trans envelope.symm, fun x m => ⟨fits x m, suits x m,
      fun e at_ own => stems x m e ((mem e).mpr (.inl ⟨at_, own⟩)),
      fun f at_ own => stems x m f.claim ((mem _).mpr (.inr ⟨f, at_, own, rfl⟩))⟩⟩

theorem books_iff (s : State) : Books s ↔ s.BooksFor s.heldFor := by
  have table : (∀ x ∈ s.rct.zipIdx, recipeBooks s x.1 x.2) ↔ s.TableBooked := by
    simp only [recipeBooks_iff]
    exact ⟨fun h i x record => h (x, i) (List.mem_zipIdx_iff_getElem?.mpr record),
      fun h x mem => h x.2 x.1 (List.mem_zipIdx_iff_getElem?.mp mem)⟩
  have chosen : chosenBooks s ↔ ∀ c ∈ s.clu.chosen, c.Booked s.drc.claims s.rct := by
    have fresh : ∀ g, s.hasClaim g = false ↔ ∀ e ∈ s.drc.claims, e.stem.tag ≠ g := by simp [State.hasClaim]
    refine forall₂_congr fun c _ => ?_
    rw [fresh]
    exact ⟨fun ⟨room, fresh, x, record, test⟩ => ⟨room, fresh, x, record, test⟩,
      fun ⟨room, fresh, x, record, test⟩ => ⟨room, fresh, x, record, test⟩⟩
  constructor
  · rintro ⟨a, b, recipes, round, room, falling, nodup, claimable, listRoom, listNodup, listClaimable, unread, unloaded⟩
    refine ⟨fun c => ?_, table.mp recipes, chosen.mp round, ⟨room, nodup, claimable⟩, falling,
      ⟨listRoom, listNodup, listClaimable⟩, unread, unloaded⟩
    cases c
    · exact (cradleBooks_iff .a).mp a
    · exact (cradleBooks_iff .b).mp b
  · rintro ⟨cradles, recipes, round, ⟨room, nodup, claimable⟩, falling, ⟨listRoom, listNodup, listClaimable⟩, unread, unloaded⟩
    exact ⟨(cradleBooks_iff .a).mpr (cradles .a), (cradleBooks_iff .b).mpr (cradles .b), table.mpr recipes,
      chosen.mpr round, room, falling, nodup, claimable, listRoom, listNodup, listClaimable, unread, unloaded⟩

theorem State.BooksFor.perm {held' : Cradle → List Claim} (h : s.BooksFor held) (p : ∀ c, (held c).Perm (held' c)) :
    s.BooksFor held' :=
  { h with cradles := fun c => (h.cradles c).perm (p c) }

theorem State.boundRecipe_core (r : CradleRec) (core : t.rct.map Recipe.core = s.rct.map Recipe.core) :
    (t.boundRecipe r).map Recipe.core = (s.boundRecipe r).map Recipe.core := by
  cases recipe : r.recipe with
  | none => simp [State.boundRecipe, recipe]
  | some i => simpa [State.boundRecipe, recipe] using core_getElem? core i

/-! ## Operations elsewhere, and one cradle at a time -/

/-- One cradle changes, with the recipes, and claims may leave (R58, R100). -/
theorem State.BooksFor.change (h : s.BooksFor held) (c : Cradle) {mine : List Claim}
    (own : (t.cradle c).Booked (t.boundRecipe (t.cradle c)) mine)
    (other : t.cradle (otherCradle c) = s.cradle (otherCradle c))
    (core : t.rct.map Recipe.core = s.rct.map Recipe.core) (table : t.TableBooked)
    (claims : t.drc.claims.Sublist s.drc.claims) (falling : t.drc.falling.length ≤ 4)
    (clu : t.clu.chosen = s.clu.chosen ∨ t.clu.chosen = none) (list : StemsBooked t.rol.entries)
    (read : t.mdc.profileRead = .reading → s.mdc.profileRead = .reading) (profile : t.mdc.profile = s.mdc.profile) :
    t.BooksFor (Function.update held c mine) where
  cradles := by
    refine (forall_cradle_iff c).mpr ⟨by simpa using own, ?_⟩
    rw [other, Function.update_of_ne (otherCradle_ne c)]
    exact (h.cradles _).recipe (State.boundRecipe_core _ core)
  table := table
  chosen := fun x mem => by
    rcases clu with same | none_
    · rw [same] at mem
      exact ((h.chosen x mem).sublist claims).table core
    · simp [none_] at mem
  claims := h.claims.sublist claims
  falling := falling
  list := list
  unread := fun reading => profile.trans (h.unread (read reading))
  unloaded := fun none_ => by
    have empty := h.unloaded (profile.symm.trans none_)
    simpa [empty] using core

/-- Changes that no book tells of. -/
theorem State.BooksFor.of_same (h : s.BooksFor held) (cradle : ∀ c, t.cradle c = s.cradle c) (rct : t.rct = s.rct)
    (claims : t.drc.claims.Sublist s.drc.claims) (falling : t.drc.falling.length ≤ s.drc.falling.length)
    (clu : t.clu.chosen = s.clu.chosen ∨ t.clu.chosen = none) (list : StemsBooked t.rol.entries)
    (read : t.mdc.profileRead = .reading → s.mdc.profileRead = .reading) (profile : t.mdc.profile = s.mdc.profile) :
    t.BooksFor held := by
  have bound : t.boundRecipe (s.cradle .a) = s.boundRecipe (s.cradle .a) := by simp [State.boundRecipe, rct]
  have kept := h.change .a (mine := held .a) (by rw [cradle, bound]; exact h.cradles .a) (cradle _) (by rw [rct])
    (h.table.same .a (cradle _) rct fun i => by rw [cradle]) claims (falling.trans h.falling) clu list read profile
  rwa [Function.update_eq_self] at kept

theorem State.BooksFor.setDrc (h : s.BooksFor held) {x : DropController} (claims : x.claims.Sublist s.drc.claims)
    (falling : x.falling.length ≤ 4) : (s.setDrc x).BooksFor held where
  cradles := h.cradles
  table := h.table
  chosen := fun c mem => (h.chosen c mem).sublist claims
  claims := h.claims.sublist claims
  falling := falling
  list := h.list
  unread := h.unread
  unloaded := h.unloaded

/-! ## The shape of a bound cradle -/

/-- A building cradle is bound to a recipe that is there. -/
theorem State.BooksFor.bound (h : s.BooksFor held) {c : Cradle} (building : (s.cradle c).building = true) :
    ∃ i x, (s.cradle c).recipe = some i ∧ s.rct[i]? = some x ∧ s.boundRecipe (s.cradle c) = some x := by
  obtain ⟨n, is, -⟩ := CradleRec.shape_building (h.cradles c).shape building
  obtain ⟨x, bound, -⟩ := Option.map_eq_some_iff.mp is
  obtain ⟨i, recipe, record⟩ := Option.bind_eq_some_iff.mp bound
  exact ⟨i, x, recipe, record, bound⟩

theorem State.BooksFor.building_of_held (h : s.BooksFor held) {c : Cradle} (some_ : held c ≠ []) :
    (s.cradle c).building = true := by
  by_contra idle
  have none_ := CradleRec.committed_of_not_building (h.cradles c).shape (Bool.eq_false_iff.mpr idle)
  exact some_ (List.length_eq_zero_iff.mp ((h.cradles c).committed.symm.trans none_))

theorem modify_core {rs : List Recipe} {j : Nat} (f : Recipe → Recipe) (same : ∀ x, (f x).core = x.core) :
    (rs.modify j f).map Recipe.core = rs.map Recipe.core := by
  refine List.ext_getElem? fun i => ?_
  rw [List.getElem?_map, List.getElem?_map, List.getElem?_modify]
  split
  · cases rs[i]? <;> simp [same]
  · simp

/-! ## Lost stems (R60, R68, R69, R75) -/

/-- A building cradle that has lost stems, of its stack or of its claims, and its envelope worked out afresh. -/
theorem State.BooksFor.afterLoss (h : s.BooksFor held) {c : Cradle} {q : CradleRec} {mine : List Claim}
    (building : (s.cradle c).building = true)
    (left : q = { s.cradle c with stack := q.stack, committed := q.committed }) (committed : q.committed = mine.length)
    (less : q.k < (s.cradle c).k) (stack : q.stack ⊆ (s.cradle c).stack) (sub : mine ⊆ held c)
    (now : (s.heldFor c).Perm mine) : ((s.setCradle c q).afterLoss c).BooksFor (Function.update held c mine) := by
  obtain ⟨i, x, recipe, record, bound⟩ := h.bound building
  have own := ((s.setCradle c q).afterLoss_cradle c).1
  have other := ((s.setCradle c q).afterLoss_cradle c).2.1
  have rct := (s.setCradle c q).afterLoss_rct c
  rw [State.setCradle_cradle] at own rct
  rw [State.setCradle_other] at other
  have qBuilding : q.building = true := by rw [left]; exact building
  have qRecipe : q.recipe = some i := by rw [left]; exact recipe
  have envelope : (s.setCradle c q).envelopeNow c = envelopeOf (q.stack.map (·.length.val) ++ claimLengths mine) := by
    have lengths : (s.setCradle c q).committedLengths c = s.committedLengths c := by simp [State.committedLengths]
    rw [State.envelopeNow, State.setCradle_cradle, lengths, State.committedLengths_eq]
    exact envelopeOf_perm ((now.map _).append_left _)
  have lost : ((s.setCradle c q).afterLoss c).cradle c = q.lose (envelopeOf (q.stack.map (·.length.val) ++ claimLengths mine)) := by
    rw [own, envelope]
    rfl
  rw [qBuilding, qRecipe] at rct
  by_cases none_ : q.k = 0
  · rw [if_pos ⟨rfl, none_⟩] at rct
    obtain ⟨booked, unbound⟩ := CradleRec.booked_lose_last (h.cradles c) building left none_
      (envelopeOf (q.stack.map (·.length.val) ++ claimLengths mine))
    have empty : mine = [] := by
      have : q.stack.length + q.committed = 0 := none_
      exact List.length_eq_zero_iff.mp (by omega)
    have idle : (((s.setCradle c q).afterLoss c).cradle c).building = false := by
      rw [lost, CradleRec.lose, if_pos qBuilding, if_pos none_]
      rfl
    have core : ((s.setCradle c q).afterLoss c).rct.map Recipe.core = s.rct.map Recipe.core :=
      (congrArg (List.map Recipe.core) rct).trans (by simpa using modify_core Recipe.unbound fun x => rfl)
    refine h.change c ?_ other core
      (h.table.ends c other (by simpa using rct) building recipe idle fun x k => Recipe.Booked.unbound)
      (by simp) (by simpa using h.falling) (by simp) (by simpa using h.list) (by simp) (by simp)
    have free : ((s.setCradle c q).afterLoss c).boundRecipe (((s.setCradle c q).afterLoss c).cradle c) = none := by
      rw [lost, State.boundRecipe, unbound]
      rfl
    rw [free, lost, empty]
    exact empty ▸ booked
  · rw [if_neg fun e => none_ e.2] at rct
    have booked := CradleRec.booked_lose (h.cradles c) building left committed less none_ stack sub
    rw [← lost] at booked
    have stays : (((s.setCradle c q).afterLoss c).cradle c).recipe = some i ∧
        (((s.setCradle c q).afterLoss c).cradle c).building = true := by
      rw [lost, CradleRec.lose, if_pos qBuilding, if_neg none_]
      exact ⟨qRecipe, rfl⟩
    refine h.change c ?_ other (by rw [rct]; simp) (h.table.same c other (by simpa using rct) fun j => ?_)
      (by simp) (by simpa using h.falling) (by simp) (by simpa using h.list) (by simp) (by simp)
    · have same : ((s.setCradle c q).afterLoss c).boundRecipe (((s.setCradle c q).afterLoss c).cradle c) =
          s.boundRecipe (s.cradle c) := by
        rw [State.boundRecipe, State.boundRecipe, stays.1, recipe, rct]
        simp
      rwa [same]
    · rw [CradleRec.buildsTo_of_building stays.2 stays.1, CradleRec.buildsTo_of_building building recipe]

/-- Stems un-committed as one event (R68): the cradle counts those left. -/
theorem State.BooksFor.uncommit (h : s.BooksFor held) {c : Cradle} {gone mine : List Claim} {n : Nat}
    (split : (held c).Perm (gone ++ mine)) (count : n = gone.length) (now : (s.heldFor c).Perm mine) :
    (s.uncommit c n).BooksFor (Function.update held c mine) := by
  by_cases none_ : n = 0
  · have nothing : gone = [] := List.length_eq_zero_iff.mp (count.symm.trans none_)
    rw [State.uncommit, if_pos none_]
    refine h.perm ((forall_cradle_iff c).mpr ⟨?_, ?_⟩)
    · simpa [nothing] using split
    · rw [Function.update_of_ne (otherCradle_ne c)]
  · have length := split.length_eq
    rw [List.length_append] at length
    have some_ : held c ≠ [] := fun e => by
      rw [e] at length
      simp only [List.length_nil] at length
      omega
    have committed := (h.cradles c).committed
    rw [State.uncommit, if_neg none_]
    refine h.afterLoss (h.building_of_held some_) rfl ?_ ?_ (List.Subset.refl _) (fun e mem => ?_) now
    · show (s.cradle c).committed - n = mine.length
      omega
    · show (s.cradle c).stack.length + ((s.cradle c).committed - n) < (s.cradle c).stack.length + (s.cradle c).committed
      omega
    · exact split.mem_iff.mpr (List.mem_append_right _ mem)

/-! ## Completed bunches (R26, R67, R70) -/

theorem State.complete_rct {c : Cradle} {i : Nat} (how : Completion) (recipe : (s.cradle c).recipe = some i) :
    (s.complete c how).rct = s.rct.modify i Recipe.completed := by
  have table : ∀ t : State, (t.completionReport i).rct = t.rct.modify i Recipe.completed := by
    intro t
    refine List.ext_getElem? fun j => ?_
    rw [State.completionReport_get, List.getElem?_modify]
    split <;> cases t.rct[j]? <;> rfl
  unfold State.complete
  simp [recipe, table]

/-- A building cradle enters COMPLETE, with the record `q` it has come to and the claims it still counts. -/
theorem State.BooksFor.complete (h : s.BooksFor held) {c : Cradle} {q : CradleRec} {mine : List Claim} (how : Completion)
    (building : (s.cradle c).building = true) (recipe : q.recipe = (s.cradle c).recipe)
    (own : ({ q with state := .complete, completion := some how, removal := some s.now } : CradleRec).Booked
      (s.boundRecipe (s.cradle c)) mine) :
    ((s.setCradle c q).complete c how).BooksFor (Function.update held c mine) := by
  obtain ⟨i, x, bound, record, -⟩ := h.bound building
  obtain ⟨done, other⟩ := (s.setCradle c q).complete_cradle c how
  have rct := State.complete_rct (s := s.setCradle c q) (c := c) (i := i) how (by simp [recipe, bound])
  rw [State.setCradle_cradle] at done
  rw [State.setCradle_other] at other
  have core : ((s.setCradle c q).complete c how).rct.map Recipe.core = s.rct.map Recipe.core :=
    (congrArg (List.map Recipe.core) rct).trans (by simpa using modify_core Recipe.completed fun x => rfl)
  refine h.change c ?_ other core
    (h.table.ends c other (by simpa using rct) building bound (by rw [done]; rfl) fun x k => Recipe.Booked.completed)
    (by simp) (by simpa using h.falling) (by simp) (by simpa using h.list) (by simp) (by simp)
  have same : ((s.setCradle c q).complete c how).boundRecipe (((s.setCradle c q).complete c how).cradle c) =
      ((s.setCradle c q).complete c how).boundRecipe (s.cradle c) := by
    rw [State.boundRecipe, done, State.boundRecipe]
    simp [recipe]
  rw [same, done]
  simpa using own.recipe (State.boundRecipe_core _ core)

/-- A committed stem lands (R67). -/
theorem State.BooksFor.land (h : s.BooksFor held) {e : Claim} {mine : List Claim}
    (split : (held e.cradle).Perm (e :: mine)) (verified : Bool) :
    (s.land e verified).BooksFor (Function.update held e.cradle mine) := by
  have building := h.building_of_held (c := e.cradle) fun none_ => by simpa [none_] using split.length_eq
  obtain ⟨i, x, recipe, record, bound⟩ := h.bound building
  have booked := (h.cradles e.cradle).perm split
  rw [bound] at booked
  obtain ⟨goes, full, -⟩ := booked.land verified
  rw [State.land_of recipe record]
  split
  · next all => exact h.complete .full building rfl (by rw [bound]; exact full all s.now)
  · next more =>
    refine h.change e.cradle ?_ (by simp) (by simp) (h.table.same e.cradle (by simp) (by simp) fun j => ?_)
      (by simp) (by simpa using h.falling) (by simp) (by simpa using h.list) (by simp) (by simp)
    · have same : (s.setCradle e.cradle ((s.cradle e.cradle).landed e verified)).boundRecipe
          ((s.cradle e.cradle).landed e verified) = some x := by
        rw [← bound, State.boundRecipe, State.boundRecipe]
        simp [CradleRec.landed]
      rw [State.setCradle_cradle, same]
      exact goes more
    · rw [State.setCradle_cradle]
      rfl

end Sys2Proof.Machine
end

section
/-! The books of the station through the operations that change no cradle (R45, R50, R102 to R105, R162, R163). -/

namespace Sys2Proof.Machine

variable {s t u : State} {held : Cradle → List Claim}

/-- The books, each cradle counting the claims that are pending or falling for it. -/
def State.BooksKept (s : State) : Prop := s.BooksFor s.heldFor

theorem State.heldFor_congr (claims : t.drc.claims = s.drc.claims) (falling : t.drc.falling = s.drc.falling) :
    t.heldFor = s.heldFor := by
  funext c
  rw [State.heldFor, claims, falling, State.heldFor]

/-- An operation that leaves the queue and the falling list. -/
theorem State.BooksFor.kept (h : t.BooksFor s.heldFor) (claims : t.drc.claims = s.drc.claims)
    (falling : t.drc.falling = s.drc.falling) : t.BooksKept := by
  rw [State.BooksKept, State.heldFor_congr claims falling]
  exact h

/-- One cradle has come to count what `u` holds for it, and the other what it counted before. -/
theorem State.BooksFor.kept_of_update {c : Cradle} (h : t.BooksFor (Function.update s.heldFor c (u.heldFor c)))
    (other : s.heldFor (otherCradle c) = u.heldFor (otherCradle c)) (claims : t.drc.claims = u.drc.claims)
    (falling : t.drc.falling = u.drc.falling) : t.BooksKept := by
  have held : Function.update s.heldFor c (u.heldFor c) = t.heldFor := by
    rw [State.heldFor_congr claims falling]
    refine funext ((forall_cradle_iff c).mpr ⟨Function.update_self _ _ _, ?_⟩)
    rw [Function.update_of_ne (otherCradle_ne c), other]
  rwa [held] at h

/-- Blocks that the books do not read. -/
theorem State.BooksFor.elsewhere (h : s.BooksFor held) (cradle : ∀ c, t.cradle c = s.cradle c) (rct : t.rct = s.rct)
    (drc : t.drc = s.drc) (clu : t.clu = s.clu) (rol : t.rol = s.rol) (mdc : t.mdc = s.mdc) : t.BooksFor held :=
  h.of_same cradle rct (by rw [drc]) (by rw [drc]) (.inl (by rw [clu])) (by rw [rol]; exact h.list)
    (by rw [mdc]; exact id) (by rw [mdc])

/-- A round may be over, or go on with its candidate. -/
theorem State.BooksFor.setClu (h : s.BooksFor held) {x : ClaimUnit} (chosen : x.chosen = s.clu.chosen ∨ x.chosen = none) :
    (s.setClu x).BooksFor held :=
  h.of_same (fun _ => rfl) rfl (.refl _) (Nat.le_refl _) chosen h.list id rfl

theorem State.BooksFor.setRol (h : s.BooksFor held) {x : ReofferList} (list : StemsBooked x.entries) :
    (s.setRol x).BooksFor held :=
  h.of_same (fun _ => rfl) rfl (.refl _) (Nat.le_refl _) (.inl rfl) list id rfl

theorem State.BooksFor.setMdc (h : s.BooksFor held) {x : ModeController}
    (read : x.profileRead = .reading → s.mdc.profileRead = .reading) (profile : x.profile = s.mdc.profile) :
    (s.setMdc x).BooksFor held :=
  h.of_same (fun _ => rfl) rfl (.refl _) (Nat.le_refl _) (.inl rfl) h.list read profile

section
variable (h : s.BooksFor held)
include h

theorem State.BooksFor.setPtr (x : Tracker) : (s.setPtr x).BooksFor held :=
  h.elsewhere (fun _ => rfl) rfl rfl rfl rfl rfl

theorem State.BooksFor.setAlc (x : AlertController) : (s.setAlc x).BooksFor held :=
  h.elsewhere (fun _ => rfl) rfl rfl rfl rfl rfl

theorem State.BooksFor.setLbi (x : LineBus) : (s.setLbi x).BooksFor held :=
  h.elsewhere (fun _ => rfl) rfl rfl rfl rfl rfl

theorem State.BooksFor.reach (n : Nat) : (s.reach n).BooksFor held :=
  h.elsewhere (fun _ => rfl) rfl rfl rfl rfl rfl

theorem State.BooksFor.setBeam (c : Cradle) (b : Beam) : (s.setBeam c b).BooksFor held :=
  h.of_same (fun d => State.cradle_congr d (by simp)) (by simp) (by cases c <;> exact .refl _)
    (by cases c <;> exact Nat.le_refl _) (by simp) (by simpa using h.list) (by simp) (by simp)

/-! ## Notices and records -/

theorem State.BooksFor.queueAlert : s.queueAlert.BooksFor held :=
  h.elsewhere (fun c => State.cradle_congr c (by simp)) (by simp) (by simp) (by simp) (by simp) (by simp)

theorem State.BooksFor.discardNotice : s.discardNotice.BooksFor held :=
  h.elsewhere (fun c => State.cradle_congr c (by simp)) (by simp) (by simp) (by simp) (by simp) (by simp)

theorem State.BooksFor.joinNotice (n : Notice) : (s.joinNotice n).BooksFor held :=
  h.elsewhere (fun c => State.cradle_congr c (by simp)) (by simp) (by simp) (by simp) (by simp) (by simp)

theorem State.BooksFor.raise1 (c : Cause) (param : BitVec 12) : (s.raise1 c param).BooksFor held :=
  h.elsewhere (fun c => State.cradle_congr c (by simp)) (by simp) (by simp) (by simp) (by simp) (by simp)

theorem State.BooksFor.endCondition (c : Cause) : (s.endCondition c).BooksFor held :=
  h.elsewhere (fun c => State.cradle_congr c (by simp)) (by simp) (by simp) (by simp) (by simp) (by simp)

theorem State.BooksFor.reviewBlocked : s.reviewBlocked.BooksFor held :=
  h.elsewhere (fun c => by cases c <;> simp [State.cradle, State.reviewBlocked_crm]) (by simp) (by simp) (by simp)
    (by simp) (by simp)

theorem State.BooksFor.setHoldStop (v : Bool) : (s.setHoldStop v).BooksFor held :=
  h.elsewhere (fun c => State.cradle_congr c (by simp)) (by simp) (by simp) (by simp) (by simp) (by simp)

/-! ## The Re-offer List -/

theorem State.BooksFor.reoffer {st : Stem} (claimable : claimableStem st) : (s.reoffer st).BooksFor held :=
  h.of_same (fun c => State.cradle_congr c (by simp)) (by simp) (by simp) (by simp) (by simp)
    (h.list.reoffer claimable) (by simp) (by simp)

theorem State.BooksFor.reofferAll {l : List Stem} (claimable : ∀ st ∈ l, claimableStem st) :
    (s.reofferAll l).BooksFor held :=
  h.of_same (fun c => State.cradle_congr c (by simp)) (by simp) (by simp) (by simp) (by simp)
    (h.list.reofferAll claimable) (by simp) (by simp)

theorem State.BooksFor.expire : s.expire.BooksFor held :=
  h.setRol (h.list.sublist List.filter_sublist)

/-! ## The round and the mode -/

theorem State.BooksFor.roundIdle : s.roundIdle.BooksFor held := h.setClu (.inr rfl)

theorem State.BooksFor.stopClaimFrame : s.stopClaimFrame.BooksFor held := by
  unfold State.stopClaimFrame
  split
  · exact h.setLbi _
  · exact h

theorem State.BooksFor.giveUpStart : s.giveUpStart.BooksFor held := by
  unfold State.giveUpStart
  split
  · exact h.setClu (.inl rfl)
  · exact h

theorem State.BooksFor.forfeitChosen : s.forfeitChosen.BooksFor held := by
  unfold State.forfeitChosen
  split
  · exact h
  · next c chosen => exact h.reoffer (h.chosen c chosen).claimable

theorem State.BooksFor.putMode (m : Mode) : (s.putMode m).BooksFor held := h.setMdc id rfl

theorem State.BooksFor.modeEndsRound : s.modeEndsRound.BooksFor held := by
  unfold State.modeEndsRound
  split
  · exact h
  · split
    · exact h.stopClaimFrame.roundIdle
    · exact h.giveUpStart
  · exact h
  · exact h.stopClaimFrame.forfeitChosen.roundIdle

theorem State.BooksFor.changeMode (m : Mode) : (s.changeMode m).BooksFor held := by
  unfold State.changeMode
  split
  · exact h.putMode m
  · exact (h.putMode m).modeEndsRound

theorem State.BooksFor.reviewIdle : s.reviewIdle.BooksFor held := by
  unfold State.reviewIdle
  split
  · exact h.changeMode _
  · exact h

theorem State.BooksFor.settle : s.settle.BooksFor held := h.reviewIdle.reviewBlocked

end

/-! ## The same for the books as they stand after an event -/

section
variable (h : s.BooksKept)
include h

theorem State.BooksKept.raise1 (c : Cause) (param : BitVec 12) : (s.raise1 c param).BooksKept :=
  (State.BooksFor.raise1 h c param).kept (by simp) (by simp)

theorem State.BooksKept.joinNotice (n : Notice) : (s.joinNotice n).BooksKept :=
  (State.BooksFor.joinNotice h n).kept (by simp) (by simp)

theorem State.BooksKept.queueAlert : s.queueAlert.BooksKept := (State.BooksFor.queueAlert h).kept (by simp) (by simp)

theorem State.BooksKept.changeMode (m : Mode) : (s.changeMode m).BooksKept :=
  (State.BooksFor.changeMode h m).kept (by simp) (by simp)

theorem State.BooksKept.reviewIdle : s.reviewIdle.BooksKept := (State.BooksFor.reviewIdle h).kept (by simp) (by simp)

theorem State.BooksKept.settle : s.settle.BooksKept := (State.BooksFor.settle h).kept (by simp) (by simp)

/-! ## The Drop Controller -/

/-- Changes of the Drop Controller beside its queue and its falling list. -/
theorem State.BooksKept.setDrc {x : DropController} (claims : x.claims = s.drc.claims)
    (falling : x.falling = s.drc.falling) : (s.setDrc x).BooksKept :=
  State.BooksFor.kept (State.BooksFor.setDrc h (by rw [claims]) (by rw [falling]; exact h.falling)) claims falling

/-- One falling entry leaves, and its stem is un-committed (R68, R92). -/
theorem State.BooksKept.loseFalling {f : Falling} {rest : List Falling} (falling : s.drc.falling = f :: rest) :
    ((s.setDrc { s.drc with falling := rest }).uncommit f.claim.cradle 1).BooksKept := by
  have fewer : rest.length ≤ 4 := by
    have := h.falling
    rw [falling] at this
    exact (Nat.le_succ _).trans this
  have gone := State.BooksFor.setDrc (x := { s.drc with falling := rest }) h (.refl _) fewer
  generalize left : s.setDrc { s.drc with falling := rest } = u at gone
  have held : ∀ c, u.heldFor c = s.drc.claims.filter (·.cradle = c) ++ (rest.filter (·.claim.cradle = c)).map (·.claim) :=
    fun c => by rw [← left]; rfl
  have own : (s.heldFor f.claim.cradle).Perm ([f.claim] ++ u.heldFor f.claim.cradle) := by
    rw [held, State.heldFor, falling]
    simp [List.perm_middle]
  have other : s.heldFor (otherCradle f.claim.cradle) = u.heldFor (otherCradle f.claim.cradle) := by
    rw [held, State.heldFor, falling]
    simp [(otherCradle_ne f.claim.cradle).symm]
  exact (gone.uncommit own rfl (.refl _)).kept_of_update other (by simp) (by simp)

/-- The head of the queue leaves, and its stem is un-committed (R68, R83). -/
theorem State.BooksKept.loseClaim {e : Claim} {rest : List Claim} (claims : s.drc.claims = e :: rest) :
    ((s.setDrc { s.drc with claims := rest }).uncommit e.cradle 1).BooksKept := by
  have gone := State.BooksFor.setDrc (x := { s.drc with claims := rest }) h
    (by rw [claims]; exact List.sublist_cons_self e rest) h.falling
  generalize left : s.setDrc { s.drc with claims := rest } = u at gone
  have held : ∀ c, u.heldFor c = rest.filter (·.cradle = c) ++ (s.drc.falling.filter (·.claim.cradle = c)).map (·.claim) :=
    fun c => by rw [← left]; rfl
  have own : (s.heldFor e.cradle).Perm ([e] ++ u.heldFor e.cradle) := by
    rw [held, State.heldFor, claims]
    simp
  have other : s.heldFor (otherCradle e.cradle) = u.heldFor (otherCradle e.cradle) := by
    rw [held, State.heldFor, claims]
    simp [(otherCradle_ne e.cradle).symm]
  exact (gone.uncommit own rfl (.refl _)).kept_of_update other (by simp) (by simp)

theorem State.BooksKept.passClaim {e : Claim} {rest : List Claim} (claims : s.drc.claims = e :: rest) :
    (s.passClaim e rest).BooksKept :=
  (h.loseClaim claims).reviewIdle.raise1 _ _

omit h in
theorem State.BooksKept.clearPassed {s : State} (h : s.BooksKept) {l : List Claim} (claims : s.drc.claims = l) :
    (s.clearPassed l).BooksKept := by
  induction l generalizing s with
  | nil => exact h
  | cons e rest ih =>
    unfold State.clearPassed
    split
    · exact ih (h.passClaim claims) (by simp [State.passClaim])
    · exact h

/-- The head of the queue fires: it falls, or lands unverified (R84 to R86). -/
theorem State.BooksKept.fire {e : Claim} {rest : List Claim} (claims : s.drc.claims = e :: rest) :
    (s.fire e rest).BooksKept := by
  have fewer : rest.Sublist s.drc.claims := by rw [claims]; exact List.sublist_cons_self e rest
  have aimed : (s.aim e rest).BooksFor s.heldFor := State.BooksFor.setDrc h fewer h.falling
  rcases Nat.lt_or_ge s.drc.falling.length 4 with room | full
  · rw [State.fire_of_room e rest room]
    refine (aimed.setDrc (x := { (s.aim e rest).drc with
      falling := s.drc.falling ++ [{ claim := e, fireTime := s.now, window := .waiting }] }) (.refl _)
      (by simpa using room)).perm fun c => ?_
    have moved : ∀ (a b : List Claim), (e :: a ++ b).Perm (a ++ (b ++ [e])) := fun a b => by
      rw [← List.append_assoc]
      exact (List.perm_append_singleton e (a ++ b)).symm
    rw [State.heldFor, claims]
    by_cases own : e.cradle = c
    · simpa [State.heldFor, State.aim, own] using moved _ _
    · simp [State.heldFor, State.aim, own]
  · rw [State.fire_of_full e rest full]
    have held : ∀ c, (s.aim e rest).heldFor c =
        rest.filter (·.cradle = c) ++ (s.drc.falling.filter (·.claim.cradle = c)).map (·.claim) := fun c => rfl
    have own : (s.heldFor e.cradle).Perm (e :: (s.aim e rest).heldFor e.cradle) := by
      rw [held, State.heldFor, claims]
      simp
    have other : s.heldFor (otherCradle e.cradle) = (s.aim e rest).heldFor (otherCradle e.cradle) := by
      rw [held, State.heldFor, claims]
      simp [(otherCradle_ne e.cradle).symm]
    have landed := (aimed.land own false).kept_of_update other (by simp) (by simp)
    exact landed.reviewIdle.raise1 _ _

theorem State.BooksKept.arrival : s.arrival.BooksKept := by
  have cleared := h.clearPassed rfl
  unfold State.arrival
  dsimp only
  split
  · exact cleared
  · next claims =>
    split
    · exact cleared.fire claims
    · exact cleared

end

end Sys2Proof.Machine
end

section
/-! The books of the station through STOP, pulses, the bus and the claim round (R31, R32, R41 to R45, R98, R105, R121). -/

namespace Sys2Proof.Machine

variable {s t u : State}

/-- Changes that the books do not read: a round may be over, and stems may leave the list. -/
theorem State.BooksKept.same (h : s.BooksKept) (crm : ∀ c, t.cradle c = s.cradle c) (rct : t.rct = s.rct)
    (drc : t.drc.claims = s.drc.claims ∧ t.drc.falling = s.drc.falling)
    (clu : t.clu.chosen = s.clu.chosen ∨ t.clu.chosen = none) (rol : t.rol.entries.Sublist s.rol.entries)
    (mdc : t.mdc.profileRead = s.mdc.profileRead ∧ t.mdc.profile = s.mdc.profile) : t.BooksKept :=
  State.BooksFor.kept (State.BooksFor.of_same h crm rct (by rw [drc.1]) (by rw [drc.2]) clu (h.list.sublist rol)
    (by rw [mdc.1]; exact id) mdc.2) drc.1 drc.2

/-- Blocks that the books do not read. -/
theorem State.BooksKept.elsewhere (h : s.BooksKept) (crm : t.crm = s.crm) (rct : t.rct = s.rct) (drc : t.drc = s.drc)
    (clu : t.clu = s.clu) (rol : t.rol = s.rol) (mdc : t.mdc = s.mdc) : t.BooksKept :=
  h.same (fun c => State.cradle_congr c crm) rct (by rw [drc]; exact ⟨rfl, rfl⟩) (by rw [clu]; exact .inl rfl)
    (by rw [rol]) (by rw [mdc]; exact ⟨rfl, rfl⟩)

/-- A round may be over. -/
theorem State.BooksKept.setClu (h : s.BooksKept) {x : ClaimUnit} (chosen : x.chosen = s.clu.chosen ∨ x.chosen = none) :
    (s.setClu x).BooksKept := State.BooksFor.setClu h chosen

section
variable (h : s.BooksKept)
include h

theorem State.BooksKept.setAlc (x : AlertController) : (s.setAlc x).BooksKept := State.BooksFor.setAlc h x

theorem State.BooksKept.setPtr (x : Tracker) : (s.setPtr x).BooksKept := State.BooksFor.setPtr h x

theorem State.BooksKept.setLbi (x : LineBus) : (s.setLbi x).BooksKept := State.BooksFor.setLbi h x

theorem State.BooksKept.reach (n : Nat) : (s.reach n).BooksKept := State.BooksFor.reach h n

theorem State.BooksKept.setHoldStop (v : Bool) : (s.setHoldStop v).BooksKept :=
  (State.BooksFor.setHoldStop h v).kept (by simp) (by simp)

theorem State.BooksKept.reviewBlocked : s.reviewBlocked.BooksKept :=
  (State.BooksFor.reviewBlocked h).kept (by simp) (by simp)

theorem State.BooksKept.endCondition (c : Cause) : (s.endCondition c).BooksKept :=
  (State.BooksFor.endCondition h c).kept (by simp) (by simp)

theorem State.BooksKept.discardNotice : s.discardNotice.BooksKept :=
  (State.BooksFor.discardNotice h).kept (by simp) (by simp)

theorem State.BooksKept.expire : s.expire.BooksKept := State.BooksFor.expire h

theorem State.BooksKept.giveUpStart : s.giveUpStart.BooksKept :=
  (State.BooksFor.giveUpStart h).kept (by simp) (by simp)

theorem State.BooksKept.setBeam (c : Cradle) (b : Beam) : (s.setBeam c b).BooksKept :=
  h.same (fun d => State.cradle_congr d (by simp)) (by simp) (by cases c <;> exact ⟨rfl, rfl⟩) (.inl (by simp))
    (by simp) (by simp)

/-! ## STOP -/

/-- Every pending entry goes to the Re-offer List, and the cradles count what falls (R98). -/
theorem State.BooksKept.stopForfeit : s.stopForfeit.BooksKept := by
  have locked : (s.setDrc { s.drc with claims := [], gateLock := true }).BooksFor s.heldFor :=
    State.BooksFor.setDrc h (List.nil_sublist _) h.falling
  have forfeited := locked.reofferAll (l := s.drc.claims.map (·.stem)) fun st mem => by
    obtain ⟨e, at_, rfl⟩ := List.mem_map.mp mem
    exact h.claims.claimable e at_
  unfold State.stopForfeit
  dsimp only
  generalize after : (s.setDrc { s.drc with claims := [], gateLock := true }).reofferAll (s.drc.claims.map (·.stem)) = u
    at forfeited
  have drc : u.drc = { s.drc with claims := [], gateLock := true } := by rw [← after]; simp
  have now : ∀ c, u.heldFor c = (s.drc.falling.filter (·.claim.cradle = c)).map (·.claim) := fun c => by
    rw [State.heldFor, drc]
    rfl
  have split : ∀ c, (s.heldFor c).Perm (s.drc.claims.filter (·.cradle = c) ++ u.heldFor c) := fun c => by
    rw [now]
    exact .refl _
  have lostA := forfeited.uncommit (split .a) (n := s.claimCount .a) rfl (.refl _)
  have nowB : (u.uncommit .a (s.claimCount .a)).heldFor = u.heldFor := State.heldFor_congr (by simp) (by simp)
  have lostB := lostA.uncommit (c := .b) (n := s.claimCount .b) (gone := s.drc.claims.filter (·.cradle = .b))
    (mine := u.heldFor .b) (by simpa using split .b) rfl (by rw [nowB])
  refine (lostB.perm fun c => ?_).kept (s := u) (by simp) (by simp)
  cases c <;> simp

theorem State.BooksKept.enterStop (c : Cause) (param : BitVec 12) : (s.enterStop c param).BooksKept := by
  have recorded : (s.recordStop c param).saveMode.BooksKept := (h.setAlc _).queueAlert.setAlc _
  have forfeited := (recorded.changeMode .stopped).stopForfeit
  rw [State.enterStop_eq]
  refine State.BooksKept.reviewBlocked ?_
  unfold State.holdForStop
  split
  · exact forfeited.setHoldStop true
  · exact forfeited

theorem State.BooksKept.raise2 (c : Cause) (param : BitVec 12) : (s.raise2 c param).BooksKept := by
  unfold State.raise2
  split
  · exact h.setAlc _
  · exact h.enterStop c param

theorem State.BooksKept.unlock : s.unlock.BooksKept :=
  (h.setDrc (x := { s.drc with gateLock := false, missRun := 0 }) rfl rfl).setHoldStop false

theorem State.BooksKept.endStop : s.endStop.BooksKept := by
  have returned : (s.setAlc s.alc.resume).queueAlert.returnMode.BooksKept := (h.setAlc _).queueAlert.changeMode _
  have settled : (s.setAlc s.alc.resume).queueAlert.returnMode.forgetMode.settle.BooksKept := (returned.setAlc _).settle
  rw [State.endStop_eq]
  exact settled.unlock

/-! ## Pulses -/

theorem State.BooksKept.unannouncedPitch : s.unannouncedPitch.BooksKept :=
  h.elsewhere (by simp) (by simp) (by simp) (by simp) (by simp) (by simp)

theorem State.BooksKept.expectAnnounce : s.expectAnnounce.BooksKept := by
  have before : (if s.ptr.announceExpected then s.unannouncedPitch else s).BooksKept := by
    split
    · exact h.unannouncedPitch
    · exact h
  unfold State.expectAnnounce
  exact ((before.setPtr _).setLbi _).giveUpStart

theorem State.BooksKept.countCoast : s.countCoast.BooksKept :=
  h.elsewhere (by simp) (by simp) (by simp) (by simp) (by simp) (by simp)

theorem State.BooksKept.forwardPulse : s.forwardPulse.BooksKept := by
  cases synced : s.ptr.p with
  | none =>
    rw [State.forwardPulse_of_unsynced synced]
    exact h.expectAnnounce.countCoast.settle
  | some p =>
    have advanced : (s.advance p).BooksKept := h.setPtr _
    rw [State.forwardPulse_of_synced synced]
    exact advanced.arrival.expire.expectAnnounce.countCoast.settle

theorem State.BooksKept.endAnnouncePending : s.endAnnouncePending.BooksKept :=
  h.elsewhere (by simp) (by simp) (by simp) (by simp) (by simp) (by simp)

theorem State.BooksKept.announcePendingEnd : s.announcePendingEnd.BooksKept :=
  h.elsewhere (by simp) (by simp) (by simp) (by simp) (by simp) (by simp)

/-! ## The receiver -/

theorem State.BooksKept.frameEnd : s.frameEnd.BooksKept := by
  rw [State.frameEnd_eq]
  refine (h.setLbi _).setClu ?_
  rcases s.clu.afterFrame_cases with same | rest
  · exact .inl (congrArg (·.chosen) same)
  · exact .inr (congrArg (·.chosen) rest)

theorem State.BooksKept.endLost : s.endLost.BooksKept := by
  unfold State.endLost
  split
  · exact h.setClu (.inr rfl)
  · exact h

theorem State.BooksKept.badFrame (kind : FrameKind) : (s.badFrame kind).BooksKept :=
  h.elsewhere (by simp) (by simp) (by simp) (by simp) (by simp) (by simp)

theorem State.BooksKept.cutShort (kind : FrameKind) : (s.cutShort kind).BooksKept := by
  have lost := (h.frameEnd.setLbi { s.frameEnd.lbi with openRun := Config.idleRun }).endLost
  unfold State.cutShort
  dsimp only
  split
  · exact lost.endAnnouncePending
  · exact lost

theorem State.BooksKept.unknownKind : s.unknownKind.BooksKept :=
  h.elsewhere (by simp) (by simp) (by simp) (by simp) (by simp) (by simp)

theorem State.BooksKept.becomeIdle : s.becomeIdle.BooksKept := by
  unfold State.becomeIdle
  split
  · exact h
  · exact (h.setLbi _).endLost

theorem State.BooksKept.startMark : s.startMark.BooksKept := by
  unfold State.startMark
  split
  · exact h.setLbi _
  · exact (h.setLbi _).giveUpStart
  · exact h

theorem State.BooksKept.reserveEnds : s.claimReserveEnd.BooksKept ∧ s.reclaimReserveEnd.BooksKept :=
  ⟨h.elsewhere (by simp) (by simp) (by simp) (by simp) (by simp) (by simp),
    h.elsewhere (by simp) (by simp) (by simp) (by simp) (by simp) (by simp)⟩

/-! ## The claim round -/

omit h in
/-- A chosen candidate has room in the queue, is not pending, and is a stem its recipe takes (R32 to R34, R51). -/
theorem State.booked_of_choose {kind : RoundKind} {st : Stem} {c : Candidate} (eligible : s.eligible kind st = true)
    (fresh : kind = .reclaim → s.hasClaim st.tag = false) (chosen : s.choose kind st = some c) :
    c.Booked s.drc.claims s.rct := by
  obtain ⟨n, -, candidate, -⟩ := State.choose_spec chosen
  obtain ⟨-, -, stem, -, x, record, test, -⟩ := State.candidate_spec candidate
  simp only [State.eligible, State.mayBid, Bool.and_eq_true, decide_eq_true_eq] at eligible
  obtain ⟨⟨-, room⟩, kindTest⟩ := eligible
  have absent : s.hasClaim st.tag = false := by
    cases kind with
    | claim => simpa using kindTest
    | reclaim => exact fresh rfl
  exact ⟨room, by simpa [State.hasClaim, stem] using absent, x, record, stem ▸ test⟩

theorem State.BooksKept.openRound (kind : RoundKind) (st : Stem) (fresh : kind = .reclaim → s.hasClaim st.tag = false) :
    (s.openRound kind st).BooksKept := by
  have rest : s.stopClaimFrame.roundIdle.BooksKept :=
    ((State.BooksFor.stopClaimFrame h).roundIdle).kept (by simp) (by simp)
  have absent : kind = .reclaim → s.stopClaimFrame.roundIdle.hasClaim st.tag = false := fun e => by
    simpa [State.hasClaim] using fresh e
  unfold State.openRound
  dsimp only
  generalize s.stopClaimFrame.roundIdle = u at rest absent
  split
  · exact rest
  · rename_i c chosen
    rw [Option.ite_none_right_eq_some] at chosen
    obtain ⟨eligible, chosen⟩ := chosen
    exact { rest with
      chosen := fun x mem => by
        obtain rfl : c = x := by simpa using mem
        exact State.booked_of_choose eligible absent chosen }

theorem State.BooksKept.announce (st : Stem) : (s.announce st).BooksKept := by
  have heard : (s.frameEnd.line st).announced.BooksKept :=
    h.frameEnd.elsewhere (by simp) (by simp) (by simp) (by simp) (by simp) (by simp)
  have tracked : (s.frameEnd.trackAnnounce st).BooksKept := by
    rw [State.trackAnnounce_eq]
    split
    · exact heard.openRound _ _ (by simp)
    · exact heard
  exact tracked.endAnnouncePending.setLbi _

theorem State.BooksKept.reofferReceived (st : Stem) : (s.frameEnd.takeReoffer st).openReclaimReserve.BooksKept := by
  have taken : (s.frameEnd.takeReoffer st).BooksKept := by
    unfold State.takeReoffer
    split
    · exact h.frameEnd.setClu (.inr rfl)
    · next free =>
      simp only [Bool.or_eq_true, not_or, Bool.not_eq_true] at free
      exact h.frameEnd.openRound _ _ fun _ => free.1
  exact taken.setLbi _

theorem State.BooksKept.startClaim (kind : RoundKind) (since : Option Nat) : (s.startClaim kind since).BooksKept :=
  h.elsewhere (by simp) (by simp) (by simp) (by simp) (by simp) (by simp)

theorem State.BooksKept.win : s.win.BooksKept := by
  unfold State.win
  split
  · exact h.setClu (.inl rfl)
  · exact h

theorem State.BooksKept.stopDriving : s.stopDriving.BooksKept :=
  State.BooksFor.setLbi (State.BooksFor.setRol (x := { s.rol with sending := none }) h h.list) _

theorem State.BooksKept.loseArbitration : s.loseArbitration.BooksKept := by
  unfold State.loseArbitration
  split
  · split
    · exact h.stopDriving.setClu (.inl rfl)
    · exact h
  · split
    · exact h.stopDriving
    · exact h

theorem State.BooksKept.countMismatch : s.countMismatch.BooksKept := by
  unfold State.countMismatch
  split
  · exact h.setLbi _
  · exact (h.setLbi _).raise2 _ _

theorem State.BooksKept.mismatch (atStart : Bool) : (s.mismatch atStart).BooksKept := by
  have received : (s.mismatchReceiver atStart).BooksKept := by
    unfold State.mismatchReceiver
    split
    · exact h.setLbi _
    · exact h
  unfold State.mismatch
  split
  · refine State.BooksKept.countMismatch ?_
    split
    · exact received.stopDriving.setClu (.inr rfl)
    · exact received.stopDriving
  · exact h

end

end Sys2Proof.Machine
end

section
/-! The books of the station through the station's own frames: the commit of a won stem (R46 to R49, R54, R66), the
Re-offer List's frame (R105 to R107) and the notices (R149). -/

namespace Sys2Proof.Machine

variable {s t u : State} {held : Cradle → List Claim}

/-! ## The commit of a won stem -/

/-- What the recheck asks of a cradle (R46). -/
theorem State.canTake_spec {c : Candidate} {x : Recipe} (record : s.rct[c.recipe]? = some x) (can : s.canTake c = true) :
    (c.opening = true → (s.cradle c.cradle).state = .empty ∧ x.canBind = true) ∧
      (c.opening = false → (s.cradle c.cradle).state = .filling ∧ (s.cradle c.cradle).recipe = some c.recipe ∧
        x.fits (widen (s.cradle c.cradle).envelope c.stem.length.val) = true) := by
  simp only [State.canTake, record] at can
  split at can <;> rename_i opening
  · simp only [Bool.and_eq_true, beq_iff_eq] at can
    obtain ⟨⟨-, empty⟩, bind⟩ := can
    exact ⟨fun _ => ⟨empty, bind⟩, fun e => by simp [opening] at e⟩
  · simp only [Bool.and_eq_true, beq_iff_eq] at can
    obtain ⟨⟨filling, recipe⟩, fits⟩ := can
    exact ⟨fun e => absurd e opening, fun _ => ⟨filling, recipe, fits⟩⟩

/-- A cradle commits to a stem: it counts one more (R47, R48). -/
theorem State.BooksFor.takeStem (h : s.BooksFor held) {c : Candidate} {x : Recipe}
    (record : s.rct[c.recipe]? = some x) (test : x.stemTest c.stem = true) (can : s.canTake c = true) :
    ((s.bindReport c).setCradle c.cradle ((s.cradle c.cradle).commit c x.n)).BooksFor
      (Function.update held c.cradle (⟨c.stem, c.cradle, c.kind⟩ :: held c.cradle)) := by
  obtain ⟨empty, filling⟩ := State.canTake_spec record can
  cases opening : c.opening with
  | false =>
    obtain ⟨state, recipe, fits⟩ := filling opening
    have bound : s.boundRecipe (s.cradle c.cradle) = some x := by simp [State.boundRecipe, recipe, record]
    have building : (s.cradle c.cradle).building = true := by simp [CradleRec.building, state]
    have committed : ((s.cradle c.cradle).commit c x.n).building = true := by
      rcases (s.cradle c.cradle).commit_state c x.n with e | e <;> simp [CradleRec.building, e]
    obtain ⟨booked, same⟩ := (bound ▸ h.cradles c.cradle).commitFilling state opening test fits
    rw [State.bindReport, if_neg (by simp [opening])]
    refine h.change c.cradle ?_ (by simp) (by simp) (h.table.same c.cradle (by simp) (by simp) fun i => ?_)
      (by simp) (by simpa using h.falling) (by simp) (by simpa using h.list) (by simp) (by simp)
    · have still : (s.setCradle c.cradle ((s.cradle c.cradle).commit c x.n)).boundRecipe
          ((s.cradle c.cradle).commit c x.n) = some x := by
        rw [State.boundRecipe, same, recipe]
        simpa using record
      rw [State.setCradle_cradle, still]
      exact booked
    · rw [State.setCradle_cradle, CradleRec.buildsTo_of_building committed (same.trans recipe),
        CradleRec.buildsTo_of_building building recipe]
  | true =>
    obtain ⟨state, bind⟩ := empty opening
    have idle : (s.cradle c.cradle).building = false := by simp [CradleRec.building, state]
    have committed : ((s.cradle c.cradle).commit c x.n).building = true := by
      rcases (s.cradle c.cradle).commit_state c x.n with e | e <;> simp [CradleRec.building, e]
    obtain ⟨booked, recipe, none_⟩ := (h.cradles c.cradle).commitOpening state opening (h.table _ x record).some_ test
    have rct : (s.bindReport c).rct = s.rct.modify c.recipe Recipe.bound := by
      rw [State.bindReport, if_pos opening]
      rfl
    have core : ((s.bindReport c).setCradle c.cradle ((s.cradle c.cradle).commit c x.n)).rct.map Recipe.core =
        s.rct.map Recipe.core := by
      simpa [rct] using modify_core Recipe.bound fun y => rfl
    rw [none_]
    refine h.change c.cradle ?_ (by simp [State.bindReport_cradle]) core
      (h.table.begins c.cradle (by simp [State.bindReport_cradle]) (by simpa using rct) idle (by simpa using committed)
        (by simpa using recipe) fun y record' => ?_)
      (by simp [State.bindReport, opening]) (by simpa [State.bindReport, opening] using h.falling)
      (by simp [State.bindReport, opening]) (by simpa [State.bindReport, opening] using h.list)
      (by simp [State.bindReport, opening]) (by simp [State.bindReport, opening])
    · rw [State.setCradle_cradle]
      refine booked.recipe ?_
      rw [State.boundRecipe, recipe]
      simpa [record] using core_getElem? core c.recipe
    · obtain rfl : x = y := by simpa [record] using record'
      exact bind

/-- With no round open, a claim may join the queue (R47, R82). -/
theorem State.BooksFor.insertClaim (h : s.BooksFor held) (closed : s.clu.chosen = none) {e : Claim}
    (room : s.drc.claims.length < 32) (fresh : ∀ d ∈ s.drc.claims, d.stem.tag ≠ e.stem.tag)
    (claimable : claimableStem e.stem) :
    (s.setDrc { s.drc with claims := insertByTag (·.stem.tag) e s.drc.claims }).BooksFor held where
  cradles := h.cradles
  table := h.table
  chosen := fun c mem => by simp [closed] at mem
  claims :=
    { room := by simpa using room
      nodup := by
        refine (((insertByTag_perm (·.stem.tag) e s.drc.claims).map _).nodup_iff).mpr
          (List.nodup_cons.mpr ⟨fun mem => ?_, h.claims.nodup⟩)
        obtain ⟨d, at_, same⟩ := List.mem_map.mp mem
        exact fresh d at_ same
      claimable := fun d mem => by
        rcases (mem_insertByTag _ _ _ _).mp mem with rfl | mem
        · exact claimable
        · exact h.claims.claimable d mem }
  falling := h.falling
  list := h.list
  unread := h.unread
  unloaded := h.unloaded

/-- A claim that has joined the queue counts for its cradle (R100). -/
theorem State.heldFor_insert {e : Claim} (claims : t.drc.claims = insertByTag (·.stem.tag) e s.drc.claims)
    (falling : t.drc.falling = s.drc.falling) (c : Cradle) :
    (if e.cradle = c then e :: s.heldFor c else s.heldFor c).Perm (t.heldFor c) := by
  have inserted := (insertByTag_perm (·.stem.tag) e s.drc.claims).symm.filter (·.cradle = c)
  rw [State.heldFor, State.heldFor, claims, falling]
  split
  · next own => exact .append_right _ (by simpa [own] using inserted)
  · next other => exact .append_right _ (by simpa [other] using inserted)

/-- A won stem is committed, and its round is over (R46 to R48). -/
theorem State.BooksKept.commit (h : s.BooksKept) {c : Candidate} (booked : c.Booked s.drc.claims s.rct)
    (can : s.canTake c = true) : (s.commit c).roundIdle.BooksKept := by
  obtain ⟨x, record, test⟩ := booked.takes
  have taken := (State.BooksFor.takeStem h record test can).roundIdle
  have drc : ∀ q, ((s.bindReport c).setCradle c.cradle q).roundIdle.drc = s.drc := fun q => by
    unfold State.bindReport
    split <;> simp
  have n : ((s.rct[c.recipe]?).map (·.n)).getD 0 = x.n := by rw [record]; rfl
  have inserted : (s.commit c).roundIdle.BooksFor
      (Function.update s.heldFor c.cradle (⟨c.stem, c.cradle, c.kind⟩ :: s.heldFor c.cradle)) := by
    have joined := taken.insertClaim (e := ⟨c.stem, c.cradle, c.kind⟩) rfl (by rw [drc]; exact booked.room)
      (by rw [drc]; exact booked.fresh) booked.claimable
    rw [drc] at joined
    rwa [State.commit_eq, State.bindReport_cradle, n]
  have counts := State.heldFor_insert (s := s) (t := (s.commit c).roundIdle) (e := ⟨c.stem, c.cradle, c.kind⟩)
    (by simp [State.commit_eq]) (by simp [State.commit_eq])
  refine inserted.perm ((forall_cradle_iff c.cradle).mpr ⟨?_, ?_⟩)
  · simpa using counts c.cradle
  · simpa [otherCradle_ne, (otherCradle_ne c.cradle).symm] using counts (otherCradle c.cradle)

section
variable (h : s.BooksKept)
include h

theorem State.BooksKept.ownFrameEnd : s.ownFrameEnd.BooksKept := (h.setLbi _).frameEnd

theorem State.BooksKept.wonFrameEnd {c : Candidate} (booked : c.Booked s.drc.claims s.rct) :
    (s.wonFrameEnd c).BooksKept := by
  have own := h.ownFrameEnd
  unfold State.wonFrameEnd
  refine State.BooksKept.settle ?_
  split
  · next recheck =>
    simp only [State.recheck, Bool.and_eq_true] at recheck
    exact own.commit (by simpa using booked) recheck.1.2
  · exact ((State.BooksFor.reoffer own booked.claimable).roundIdle).kept (by simp) (by simp)

theorem State.BooksKept.claimFrameEnd (kind : RoundKind) : (s.claimFrameEnd kind).BooksKept := by
  unfold State.claimFrameEnd
  split
  · exact h
  · next c chosen =>
    split
    · exact h.wonFrameEnd (h.chosen c chosen)
    · exact h

/-! ## The Re-offer List and the notices -/

theorem State.BooksKept.reofferSent : s.reofferSent.BooksKept := by
  have own := h.ownFrameEnd
  unfold State.reofferSent
  split
  · have left : StemsBooked (s.rol.entries.filter fun e => s.rol.sending != some e.tag) :=
      h.list.sublist List.filter_sublist
    exact State.BooksFor.setLbi (State.BooksFor.setRol (x := { entries := _, sending := none }) own left) _
  · exact h

theorem State.BooksKept.startNotice : s.startNotice.BooksKept :=
  h.elsewhere (by simp) (by simp) (by simp) (by simp) (by simp) (by simp)

theorem State.BooksKept.startReoffer : s.startReoffer.BooksKept := by
  unfold State.startReoffer
  split
  · next st _ _ _ =>
    exact State.BooksFor.setLbi (State.BooksFor.setRol (x := { s.rol with sending := some st.tag }) h h.list) _
  · exact h

theorem State.BooksKept.reofferSend : s.reofferSend.BooksKept := by
  unfold State.reofferSend
  split
  · split
    · exact h.expire.startNotice
    · exact h.expire.startReoffer
  · exact h

theorem State.BooksKept.noticeSend : s.noticeSend.BooksKept := by
  unfold State.noticeSend
  split
  · exact h.expire.startNotice
  · exact h

theorem State.BooksKept.startJoinTimer (f : Frame) : (s.startJoinTimer f).BooksKept := by
  unfold State.startJoinTimer
  split
  · split
    · exact State.BooksFor.setMdc (x := { s.mdc with joinTimer := _ }) h id rfl
    · exact h
  · exact h

theorem State.BooksKept.noticeSent : s.noticeSent.BooksKept := by
  have cleared : ∀ f, (s.ownFrameEnd.clearLost f).noticeLeaves.BooksKept := fun f =>
    h.ownFrameEnd.elsewhere (by simp) (by simp) (by simp) (by simp) (by simp) (by simp)
  unfold State.noticeSent
  split
  · exact h
  · exact h
  · exact h
  · exact (cleared _).startJoinTimer _

end

end Sys2Proof.Machine
end

section
/-! The books of the station through cradles, drops and the panel (R56, R64, R70 to R76, R87 to R97). -/

namespace Sys2Proof.Machine

variable {s t u : State} {held : Cradle → List Claim}

/-! ## What the cradles count -/

theorem State.heldFor_of_claims (claims : t.drc.claims = s.drc.claims)
    (falling : t.drc.falling.map (·.claim) = s.drc.falling.map (·.claim)) : t.heldFor = s.heldFor := by
  have commute : ∀ (l : List Falling) (c : Cradle),
      (l.filter (·.claim.cradle = c)).map (·.claim) = (l.map (·.claim)).filter (·.cradle = c) := fun l c => by
    rw [List.filter_map]
    rfl
  funext c
  rw [State.heldFor, State.heldFor, claims, commute, commute, falling]

/-- A cradle whose pending and falling entries are gone counts nothing (R73, R76). -/
theorem State.heldFor_without {c : Cradle} (claims : t.drc.claims = s.drc.claims.filter (·.cradle ≠ c))
    (falling : t.drc.falling = s.drc.falling.filter (·.claim.cradle ≠ c)) :
    t.heldFor = Function.update s.heldFor c [] := by
  refine funext ((forall_cradle_iff c).mpr ⟨?_, ?_⟩)
  · rw [Function.update_self, State.heldFor, claims, falling]
    simp [List.filter_filter]
  · have kept : ∀ d : Cradle, (decide (d = otherCradle c) && decide (d ≠ c)) = decide (d = otherCradle c) := fun d => by
      cases c <;> cases d <;> rfl
    rw [Function.update_of_ne (otherCradle_ne c), State.heldFor, claims, falling]
    simp only [List.filter_filter, kept]
    rfl

/-- A cradle that is not building counts no stem. -/
theorem State.BooksKept.heldFor_of_idle (h : s.BooksKept) {c : Cradle} (idle : (s.cradle c).building = false) :
    s.heldFor c = [] := by
  by_contra some_
  exact Bool.noConfusion (idle.symm.trans (State.BooksFor.building_of_held h some_))

/-- One cradle's record changes, its build and the claims it counts do not. -/
theorem State.BooksKept.setCradle (h : s.BooksKept) {c : Cradle} {r : CradleRec}
    (own : r.Booked (s.boundRecipe r) (s.heldFor c)) (builds : ∀ i, r.buildsTo i = (s.cradle c).buildsTo i) :
    (s.setCradle c r).BooksKept := by
  have changed := State.BooksFor.change (t := s.setCradle c r) h c (mine := s.heldFor c)
    (by simpa [State.boundRecipe] using own) (by simp) (by simp)
    (h.table.same c (by simp) (by simp) (by simpa using builds)) (by simp) (by simpa using h.falling) (by simp)
    (by simpa using h.list) (by simp) (by simp)
  rw [Function.update_eq_self] at changed
  exact changed.kept (by simp) (by simp)

/-- A cradle that is not building may become one with nothing in it (R63, R64, R72). -/
theorem State.BooksKept.setUnbound (h : s.BooksKept) {c : Cradle} {r : CradleRec}
    (idle : (s.cradle c).building = false) (recipe : r.recipe = none) (own : r.Booked none []) :
    (s.setCradle c r).BooksKept := by
  have free : s.boundRecipe r = none := by simp [State.boundRecipe, recipe]
  refine h.setCradle (by rwa [free, h.heldFor_of_idle idle]) fun i => ?_
  rw [CradleRec.buildsTo_of_idle idle]
  simp [CradleRec.buildsTo, recipe]

/-- A cradle that is ABSENT, STALE or EMPTY may go over to another of these states (R63, R64). -/
theorem State.BooksKept.setVacant (h : s.BooksKept) {c : Cradle} {m : CradleState}
    (was : (s.cradle c).state = .absent ∨ (s.cradle c).state = .stale ∨ (s.cradle c).state = .empty)
    (is : m = .absent ∨ m = .stale ∨ m = .empty) : (s.setCradle c { s.cradle c with state := m }).BooksKept := by
  have idle : (s.cradle c).building = false := by rcases was with e | e | e <;> simp [CradleRec.building, e]
  have own := h.cradles c
  obtain ⟨-, recipe, stack, committed, removal, completion⟩ := CradleRec.shape_unbound own.shape was
  have envelope := own.envelope
  rw [h.heldFor_of_idle idle, stack] at envelope
  exact h.setUnbound idle recipe (CradleRec.booked_unbound is recipe stack committed envelope removal completion)

/-- A removal timer that runs may run on from another time (R71). -/
theorem CradleRec.Booked.retime {r : CradleRec} {o : Option Recipe} {l : List Claim} (h : r.Booked o l)
    (running : r.removal.isSome = true) (since : Nat) : ({ r with removal := some since } : CradleRec).Booked o l := by
  have notNone : r.removal.isNone = false := by cases e : r.removal <;> simp [e] at running ⊢
  have shape := h.shape
  refine { h with shape := ?_ }
  cases state : r.state <;> cases o <;>
    simp [CradleRec.shape, CradleRec.k, state, running, notNone] at shape ⊢
  exact shape

section
variable (h : s.BooksKept)
include h

/-! ## The cradle sensors -/

theorem State.BooksKept.cradlePlaced (c : Cradle) : (s.cradlePlaced c).BooksKept := by
  unfold State.cradlePlaced
  split
  · next absent => exact (h.setVacant (.inl absent) (.inr (.inr rfl))).settle
  · exact h

theorem State.BooksKept.removeStale {c : Cradle} (stale : (s.cradle c).state = .stale) : (s.removeStale c).BooksKept := by
  have gone := h.setVacant (c := c) (.inr (.inl stale)) (.inl rfl)
  unfold State.removeStale
  dsimp only
  split
  · exact gone
  · exact gone.endCondition _

theorem State.BooksKept.removeComplete {c : Cradle} (complete : (s.cradle c).state = .complete) :
    (s.removeComplete c).BooksKept := by
  have idle : (s.cradle c).building = false := by simp [CradleRec.building, complete]
  have committed := CradleRec.committed_of_not_building (h.cradles c).shape idle
  exact h.setUnbound idle rfl (CradleRec.booked_unbound (.inl rfl) rfl rfl committed rfl rfl rfl)

theorem State.BooksKept.removePremature {c : Cradle} (building : (s.cradle c).building = true) :
    (s.removePremature c).BooksKept := by
  obtain ⟨i, x, recipe, record, -⟩ := State.BooksFor.bound h building
  obtain ⟨n, -, -, -, -, -, removal, completion⟩ := CradleRec.shape_building (h.cradles c).shape building
  obtain ⟨givenDrc, givenRct, givenRol, -⟩ := s.giveUpBunch_frame c i
  obtain ⟨drc, rct, rol, -, mdc, clu, own, other, -⟩ := s.bunchLifted_does c i
  rw [givenDrc] at drc
  rw [givenRct] at rct
  rw [givenRol] at rol
  have free : (s.bunchLifted c i).boundRecipe ((s.bunchLifted c i).cradle c) = none := by
    rw [State.boundRecipe, own]
    rfl
  have lifted : (s.bunchLifted c i).BooksFor (Function.update s.heldFor c []) := by
    refine State.BooksFor.change h c ?_ other (by rw [rct]; exact modify_core _ fun x => rfl)
      (h.table.ends c other rct building recipe (by rw [own]; rfl) fun x k => Recipe.Booked.unbound)
      (by rw [drc]; exact List.filter_sublist) ?_ (.inl (by rw [clu])) ?_ (by rw [mdc]; exact id) (by rw [mdc])
    · rw [free, own]
      exact CradleRec.booked_unbound (.inl rfl) rfl rfl rfl rfl removal completion
    · rw [drc]
      exact (List.length_filter_le _ _).trans h.falling
    · rw [rol]
      refine h.list.reofferAll fun st mem => ?_
      obtain ⟨e, at_, rfl⟩ := List.mem_map.mp mem
      exact h.claims.claimable e (List.mem_of_mem_filter at_)
  rw [← State.heldFor_without (t := s.bunchLifted c i) (by rw [drc]) (by rw [drc])] at lifted
  rw [State.removePremature_eq recipe]
  exact State.BooksKept.raise1 (State.BooksKept.reviewIdle lifted) _ _

theorem State.BooksKept.cradleLifted (c : Cradle) : (s.cradleLifted c).BooksKept := by
  unfold State.cradleLifted
  split
  · exact h
  · next stale => exact (h.removeStale stale).settle
  · next empty => exact (h.setVacant (.inr (.inr empty)) (.inl rfl)).settle
  · next complete => exact (h.removeComplete complete).settle
  · next filling => exact (h.removePremature (by simp [CradleRec.building, filling])).settle
  · next closing => exact (h.removePremature (by simp [CradleRec.building, closing])).settle

theorem State.BooksKept.removalOverdue (c : Cradle) : (s.removalOverdue c).BooksKept := by
  unfold State.removalOverdue
  split
  · exact h
  · next since running =>
    refine (State.BooksKept.setCradle (h.reach _) ?_ fun i => ?_).raise1 _ _
    · exact (h.cradles c).retime (by simp [running]) _
    · rfl

/-! ## The drops -/

theorem State.BooksKept.judgeBreak (c : Cradle) : (s.judgeBreak c).BooksKept := by
  unfold State.judgeBreak
  split
  · exact h.raise1 _ _
  · next f found =>
    have mem : f ∈ s.drc.falling := List.mem_of_find?_eq_some found
    have gone := State.BooksFor.setDrc (x := { s.drc with falling := s.drc.falling.erase f }) h (.refl _)
      (List.length_erase_le.trans h.falling)
    have left := (List.perm_cons_erase mem)
    generalize is : s.setDrc { s.drc with falling := s.drc.falling.erase f } = u at gone
    have now : ∀ d, u.heldFor d =
        s.drc.claims.filter (·.cradle = d) ++ ((s.drc.falling.erase f).filter (·.claim.cradle = d)).map (·.claim) :=
      fun d => by rw [← is]; rfl
    have fell : ∀ d, (s.heldFor d).Perm (s.drc.claims.filter (·.cradle = d) ++
        ((f :: s.drc.falling.erase f).filter (·.claim.cradle = d)).map (·.claim)) := fun d =>
      ((left.filter _).map _).append_left _
    have own : (s.heldFor f.claim.cradle).Perm (f.claim :: u.heldFor f.claim.cradle) := by
      refine (fell _).trans ?_
      rw [now]
      simp [List.perm_middle]
    have other : (s.heldFor (otherCradle f.claim.cradle)).Perm (u.heldFor (otherCradle f.claim.cradle)) := by
      refine (fell _).trans ?_
      rw [now]
      simp [(otherCradle_ne f.claim.cradle).symm]
    have landed := (gone.land own true).perm ((forall_cradle_iff f.claim.cradle (P := fun d =>
      (Function.update s.heldFor f.claim.cradle (u.heldFor f.claim.cradle) d).Perm (u.heldFor d))).mpr
      ⟨by simp, by rw [Function.update_of_ne (otherCradle_ne _)]; exact other⟩)
    exact (landed.kept (by simp) (by simp)).setDrc rfl rfl

theorem State.BooksKept.beamBreaks (c : Cradle) : (s.beamBreaks c).BooksKept := by
  unfold State.beamBreaks
  split
  · exact h
  · exact ((h.setBeam c _).judgeBreak c).settle

theorem State.BooksKept.beamClears (c : Cradle) : (s.beamClears c).BooksKept := by
  unfold State.beamClears
  split
  · exact h.setBeam c _
  · exact h

omit h in
theorem openFirst_claims (l : List Falling) : (openFirst l).map (·.claim) = l.map (·.claim) := by
  induction l with
  | nil => rfl
  | cons f fs ih =>
    unfold openFirst
    split
    · rfl
    · simp [ih]

theorem State.BooksKept.windowOpen : s.windowOpen.BooksKept := by
  unfold State.windowOpen
  split
  · exact h
  · have claims := openFirst_claims s.drc.falling
    have room := h.falling
    rw [← List.length_map (·.claim), ← claims, List.length_map] at room
    have opened := State.BooksFor.setDrc (x := { s.drc with falling := openFirst s.drc.falling }) h (.refl _) room
    rw [← State.heldFor_of_claims (s := s) (t := s.setDrc { s.drc with falling := openFirst s.drc.falling }) rfl claims] at opened
    exact State.BooksKept.reach opened _

theorem State.BooksKept.gatePulseEnd : s.gatePulseEnd.BooksKept := by
  unfold State.gatePulseEnd
  split
  · exact h
  · exact (h.reach _).setDrc rfl rfl

theorem State.BooksKept.countMiss (c : Cradle) : (s.countMiss c).BooksKept := by
  have counted : (s.setDrc { s.drc with missRun := min 255 (s.drc.missRun + 1) }).BooksKept := h.setDrc rfl rfl
  unfold State.countMiss
  dsimp only
  split
  · exact counted.raise2 _ _
  · exact counted

theorem State.BooksKept.miss : s.miss.BooksKept := by
  unfold State.miss
  split
  · exact h
  · next f rest falling =>
    split
    · rw [State.missed_eq]
      have lost : ((s.reach (f.fireTime + s.profileTime (·.tmax) * Config.perMs)).loseStem f rest).BooksKept :=
        ((h.reach _).loseFalling falling).reviewIdle.raise1 _ _
      exact (lost.countMiss _).settle
    · exact h

theorem State.BooksKept.gateStuck (c : Cradle) : (s.gateStuck c).BooksKept := by
  unfold State.gateStuck
  split
  · exact h
  · dsimp only
    split
    · exact ((h.reach _).setBeam c _).raise2 _ _
    · exact h

/-! ## The panel -/

theorem State.BooksKept.refusePulse : s.refusePulse.BooksKept := h.setAlc _

theorem State.BooksKept.pull (c : Cradle) : (s.pull c).BooksKept := by
  unfold State.pull
  split
  · next may =>
    obtain ⟨building, stack⟩ := (CradleRec.mayPull_iff _).mp may
    have popped := State.BooksFor.afterLoss (q := { s.cradle c with stack := (s.cradle c).stack.tail })
      (mine := s.heldFor c) h building rfl (h.cradles c).committed ?_ (List.tail_subset _) (List.Subset.refl _) (.refl _)
    · rw [Function.update_eq_self] at popped
      exact (popped.kept (by simp) (by simp)).settle
    · have some_ := List.length_pos_iff.mpr stack
      simp only [CradleRec.k, List.length_tail]
      omega
  · exact h.refusePulse

theorem State.BooksKept.forfeitCradle (c : Cradle) : (s.forfeitCradle c).BooksFor s.heldFor := by
  unfold State.forfeitCradle
  refine (State.BooksFor.setDrc (x := { s.drc with claims := s.drc.claims.filter (·.cradle ≠ c) }) h
    List.filter_sublist h.falling).reofferAll fun st mem => ?_
  obtain ⟨e, at_, rfl⟩ := List.mem_map.mp mem
  exact h.claims.claimable e (List.mem_of_mem_filter at_)

theorem State.BooksKept.finish (c : Cradle) (key : Bool) : (s.finish c key).BooksKept := by
  unfold State.finish
  split
  · next may =>
    obtain ⟨-, building, stack, landed⟩ := (s.mayFinish_iff c key).mp may
    have forfeited := h.forfeitCradle c
    have drc := (s.forfeitCradle_does c).1
    have same : (s.forfeitCradle c).cradle c = s.cradle c := State.cradle_congr c (by simp)
    have own := forfeited.cradles c
    rw [same] at own
    have closed : (s.closeShort c).BooksFor (Function.update s.heldFor c []) :=
      forfeited.complete .short (by rwa [same]) (by rw [same]) (by rw [same]; exact own.closeShort building stack _)
    rw [← State.heldFor_without (t := s.closeShort c) (by simp [State.closeShort, drc]) ?_] at closed
    · exact State.BooksKept.settle closed
    · rw [List.filter_eq_self.mpr fun f mem => by simpa using landed f mem]
      simp [State.closeShort, drc]
  · exact h.refusePulse

theorem State.BooksKept.retire1 : s.retire1.BooksKept := (h.setAlc _).queueAlert

theorem State.BooksKept.retire2 : s.retire2.BooksKept := by
  unfold State.retire2
  split
  · exact (h.setAlc _).queueAlert
  · exact h.endStop

theorem State.BooksKept.clear (key : Bool) : (s.clear key).BooksKept := by
  unfold State.clear
  split
  · exact h.refusePulse
  · split
    · split
      · exact h.retire2
      · exact h.refusePulse
    · split
      · exact h.refusePulse
      · exact h.retire1

theorem State.BooksKept.drain : s.drain.BooksKept := by
  unfold State.drain
  split
  · exact (h.changeMode _).settle
  · exact h.refusePulse

theorem State.BooksKept.resume : s.resume.BooksKept := by
  unfold State.resume
  split
  · exact (h.changeMode _).settle
  · exact h.refusePulse

theorem State.BooksKept.refusePulseEnd : s.refusePulseEnd.BooksKept :=
  h.elsewhere (by simp) (by simp) (by simp) (by simp) (by simp) (by simp)

end

end Sys2Proof.Machine
end

section
/-! Every step keeps the books of claims, cradles, recipes and lists: the profile, the remaining commands, and the
statement (O5). -/

namespace Sys2Proof.Machine

variable {s : State}

/-! ## The Recipe Table of an accepted image -/

/-- A recipe of an image that passes the checks, uncounted as it is loaded (R17, R158). -/
theorem Recipe.booked_of_image {img : List Byte} (ok : firstFault (imageFaults img) = none) {i : Nat} {x : Recipe}
    (record : (recipesOf img)[i]? = some x) : x.Booked 0 := by
  obtain ⟨less, rfl⟩ : i < recipeCountAt img ∧ recipeAt img i = x := by
    simpa [recipesOf, List.getElem?_map, List.getElem?_range, Option.map_eq_some_iff,
      List.getElem?_eq_some_iff] using record
  have faults := imageFaults_recipe (firstFault_eq_none_iff.mp ok) less
  simp only [recipeFaults, List.forall_mem_cons] at faults
  obtain ⟨-, -, -, -, -, n, -⟩ := faults
  have plain : (byteAt img (recordOffset i + 6) == 0 || decide (60 < byteAt img (recordOffset i + 6))) = false := n
  have range : 1 ≤ byteAt img (recordOffset i + 6) ∧ byteAt img (recordOffset i + 6) ≤ 60 := by
    simpa [Nat.one_le_iff_ne_zero] using plain
  refine ⟨range.1, range.2, rfl, fun _ => Nat.zero_le _, iff_of_false ?_ ?_⟩
  · exact Bool.false_ne_true
  · exact fun ⟨limited, made⟩ => limited made.symm

/-- A cradle bound to no recipe on the table is bound to none at all (R56, R58). -/
theorem CradleRec.recipe_of_shape_none {r : CradleRec} (h : r.shape none = true) : r.recipe = none := by
  have vacant : r.state = .absent ∨ r.state = .stale ∨ r.state = .empty := by
    cases state : r.state <;> simp [CradleRec.shape, state] at h ⊢
  exact (CradleRec.shape_unbound h vacant).2.1

section
variable (h : s.BooksKept)
include h

theorem State.BooksKept.loadProfile (none_ : s.mdc.profile = none) {img : List Byte}
    (ok : firstFault (imageFaults img) = none) :
    ((s.setMdc { s.mdc with profileRead := .done, profile := some (profileOf img) }).setRct (recipesOf img)).BooksKept := by
  have empty := h.unloaded none_
  have free : ∀ c, s.boundRecipe (s.cradle c) = none := fun c => by
    cases recipe : (s.cradle c).recipe <;> simp [State.boundRecipe, recipe, empty]
  have recipe : ∀ c, (s.cradle c).recipe = none := fun c => by
    have shape := (h.cradles c).shape
    rw [free] at shape
    exact CradleRec.recipe_of_shape_none shape
  refine ⟨fun c => ?_, fun i x record => ?_, fun c mem => ?_, h.claims, h.falling, h.list, fun e => ?_, fun e => ?_⟩
  · have still : ∀ t : State, t.boundRecipe (s.cradle c) = none := fun t => by simp [State.boundRecipe, recipe]
    have own := h.cradles c
    rw [still] at own
    show (s.cradle c).Booked (State.boundRecipe _ (s.cradle c)) (s.heldFor c)
    rwa [still]
  · have none_ : ∀ c, (s.cradle c).buildsTo i = 0 := fun c => by simp [CradleRec.buildsTo, recipe]
    rw [State.buildingTo_eq _ .a]
    show x.Booked ((s.cradle .a).buildsTo i + (s.cradle .b).buildsTo i)
    rw [none_, none_]
    exact Recipe.booked_of_image ok record
  · obtain ⟨y, record, -⟩ := (h.chosen c mem).takes
    simp [empty] at record
  · simp at e
  · simp at e

theorem State.BooksKept.setMdc {x : ModeController} (read : x.profileRead = .reading → s.mdc.profileRead = .reading)
    (profile : x.profile = s.mdc.profile) : (s.setMdc x).BooksKept := State.BooksFor.setMdc h read profile

theorem State.BooksKept.acceptProfile (none_ : s.mdc.profile = none) {img : List Byte}
    (ok : firstFault (imageFaults img) = none) : (s.acceptProfile img).BooksKept := by
  have joined := (h.loadProfile none_ ok).joinNotice (.join (joinFieldsOf (profileOf img) (recipesOf img)))
  have waiting := joined.setMdc (x := { State.mdc _ with joinTimer := .waiting }) id rfl
  unfold State.acceptProfile State.enterJoining
  refine State.BooksKept.settle ?_
  split
  · exact waiting.setAlc _
  · exact waiting.changeMode _

theorem State.BooksKept.profileReadEnd (memory : SerialMemory) : (s.profileReadEnd memory).BooksKept := by
  have done : (s.setMdc { s.mdc with profileRead := .done }).BooksKept := h.setMdc (by simp) rfl
  unfold State.profileReadEnd
  split
  · next reading =>
    split
    · exact done.raise2 _ _
    · next img fault read => exact h.acceptProfile (h.unread reading) (by rw [read] at fault; exact fault)
    · exact h
  · exact h

/-! ## The join timer, and numbers heard -/

theorem State.BooksKept.joinTimerEnd : s.joinTimerEnd.BooksKept := by
  unfold State.joinTimerEnd
  split
  · next since _ =>
    have timer : ((s.reach (since + Config.joinTime)).setMdc { s.mdc with joinTimer := .stopped }).BooksKept :=
      (h.reach _).setMdc id rfl
    dsimp only
    split
    · exact (timer.changeMode _).settle
    · split
      · exact timer.setAlc _
      · exact timer
  · exact h

theorem State.BooksKept.joinHeard (n : StationNo) : (s.joinHeard n).BooksKept := by
  unfold State.joinHeard
  split
  · exact (h.joinNotice _).raise2 _ _
  · exact h

theorem State.BooksKept.conflictHeard (n : StationNo) : (s.conflictHeard n).BooksKept := by
  unfold State.conflictHeard
  split
  · exact h.raise2 _ _
  · exact h

omit h in
theorem State.BooksKept.joinAll {s : State} (h : s.BooksKept) (l : List Notice) : (s.joinAll l).BooksKept := by
  induction l generalizing s with
  | nil => exact h
  | cons n ns ih => exact ih (h.joinNotice n)

theorem State.BooksKept.queried (n : StationNo) (topic : Fin 16) : (s.queried n topic).BooksKept := by
  unfold State.queried State.respond
  split
  · split
    · exact h.discardNotice
    · exact h.joinAll _
  · exact h

/-! ## Every command -/

theorem State.BooksKept.readHold : s.readHold.BooksKept := by
  unfold State.readHold
  dsimp only
  split
  · exact h
  · exact h.setPtr _

theorem State.BooksKept.told (p : Pin) (level : Bool) : (s.told p level).BooksKept :=
  h.elsewhere rfl rfl rfl rfl rfl rfl

theorem State.BooksKept.operate (c : Instr) : (s.operate c).BooksKept := by
  have heard := fun (f : State → State) (kept : (f s).BooksKept) =>
    State.hears_keeps (P := State.BooksKept) (s := s) (f := f) h fun _ => kept
  have pressed := fun (f : State → State) (b : Pin) =>
    State.pressed_keeps (P := State.BooksKept) (s := s) (f := f) b h
  cases c with
  | reset _ => exact h
  | resetHeld => exact h
  | profileReadEnd memory => exact h.profileReadEnd memory
  | forwardPulse => exact h.forwardPulse
  | reversePulse => exact h.setPtr _
  | announce st => exact heard (·.announce st) (h.announce st)
  | announcePendingEnd => exact h.announcePendingEnd
  | holdLevelChange marked => exact (h.setPtr _).readHold
  | claimStart => exact h.startClaim _ _
  | reclaimStart => exact h.startClaim _ _
  | arbitrationLoss => exact h.loseArbitration
  | transmitMismatch atStart => exact h.mismatch atStart
  | claimSent => exact h.claimFrameEnd .claim
  | reclaimSent => exact h.claimFrameEnd .reclaim
  | claimReceived _ => exact heard State.frameEnd h.frameEnd
  | reofferReceived _ st => exact heard (fun s => (s.frameEnd.takeReoffer st).openReclaimReserve) (h.reofferReceived st)
  | badCheckFrame kind => exact heard (·.frameEnd.badFrame kind) (h.frameEnd.badFrame kind)
  | frameCutShort kind => exact heard (·.cutShort kind) (h.cutShort kind)
  | unknownKindFrame _ => exact heard State.unknownKind h.unknownKind
  | busIdle => exact h.becomeIdle
  | claimReserveEnd => exact h.reserveEnds.1
  | reclaimReserveEnd => exact h.reserveEnds.2
  | reofferSend => exact h.reofferSend
  | reofferSent => exact h.reofferSent
  | noticeSend => exact h.noticeSend
  | noticeSent => exact h.noticeSent
  | joinTimerEnd => exact h.joinTimerEnd
  | joinReceived n => exact heard (·.frameEnd.joinHeard n) (h.frameEnd.joinHeard n)
  | conflictReceived n => exact heard (·.frameEnd.conflictHeard n) (h.frameEnd.conflictHeard n)
  | noticeReceived _ => exact heard State.frameEnd h.frameEnd
  | query n topic => exact heard (·.frameEnd.queried n topic) (h.frameEnd.queried n topic)
  | cradlePresent c => exact (h.told _ _).cradlePlaced c
  | cradleAbsent c => exact (h.told _ _).cradleLifted c
  | beamBlocked c => exact (h.told _ _).beamBreaks c
  | beamClear c => exact (h.told _ _).beamClears c
  | windowOpen => exact h.windowOpen
  | miss => exact h.miss
  | gatePulseEnd => exact h.gatePulseEnd
  | gateStuck c => exact h.gateStuck c
  | removalOverdue c => exact h.removalOverdue c
  | pull c => exact pressed (·.pull c) _ (h.pull c)
  | finish c key => exact pressed (·.finish c key) _ (h.finish c key)
  | clear key => exact pressed (·.clear key) _ (h.clear key)
  | cancel => exact pressed (fun s => s.setAlc { s.alc with pend1 := s.pendingConditions }) _ (h.setAlc _)
  | drain => exact pressed State.drain _ h.drain
  | resume => exact pressed State.resume _ h.resume
  | refusePulseEnd => exact h.refusePulseEnd
  | startMark => exact h.startMark
  | won => exact h.win

theorem State.BooksKept.tick : s.tick.BooksKept := by
  unfold State.tick
  dsimp only
  split
  · exact h.elsewhere rfl rfl rfl rfl rfl rfl
  · unfold State.openBit
    split
    · exact h.elsewhere rfl rfl rfl rfl rfl rfl
    · exact h.elsewhere rfl rfl rfl rfl rfl rfl

theorem State.BooksKept.released : s.released.BooksKept :=
  h.same (fun _ => rfl) rfl ⟨rfl, rfl⟩ (.inr rfl) (List.Sublist.refl _) ⟨rfl, rfl⟩

theorem State.BooksKept.whileHeld (c : Instr) : (s.whileHeld c).BooksKept := by
  cases c with
  | beamBlocked c => exact h.told _ _
  | beamClear c => exact h.told _ _
  | cradlePresent c => exact h.told _ _
  | cradleAbsent c => exact h.told _ _
  | holdLevelChange marked => exact h.setPtr _
  | _ => exact h

end

/-- Settles O5: the books are followed with the claims each cradle counts, command by command. -/
theorem everyStepKeepsTheBooks : Obligations.EveryStepKeepsTheBooks := by
  intro s t sound h
  have kept : ∀ u, Sound u → u.BooksKept := fun u soundU => (books_iff u).mp soundU.1
  exact step_keeps sound h (fun u soundU => soundU.1) ((books_iff _).mpr (kept s sound).tick)
    (fun u soundU => (books_iff _).mpr (kept u soundU).released)
    (fun c u soundU _ => (books_iff _).mpr ((kept u soundU).whileHeld c))
    (fun c u soundU _ => (books_iff _).mpr ((kept u soundU).operate c))

end Sys2Proof.Machine
end
